-- ==== Sys2Proof/Word.lean ====
section
/-! DEFINITION. The two word sizes of the block (00_scope.md R7, R8): a register word is 32 bits, a pixel and a rule-table slot 8. -/

namespace Sys2Proof

/-- A register-port word, `u32` (00_scope.md R8, R14). -/
abbrev Word := BitVec 32

/-- A pixel, a rule-table slot, a grid-port datum: `u8` (00_scope.md R7, R14). -/
abbrev Byte := BitVec 8

end Sys2Proof
end

