-- ==== Sys2Proof/Syntax.lean ====
section
/-! DEFINITION. The commands of the block: one constructor per row of spec/opcode_table.json (30_encoding.md R91). A command word
carries no operand field (R90); the operands are in registers (R93, R95), so no constructor has an argument. -/

namespace Sys2Proof

/-- The eleven commands of 30_encoding.md R91. -/
inductive Instr
  /-- no operation (43_cipher_engine.md R170) -/
  | nop
  /-- evaluate one rule on one neighbourhood (41_rule_evaluator.md R145) -/
  | eval
  /-- one automaton step on one byte (42_automaton_step.md R160) -/
  | step
  /-- multi-cycle evolution of one byte (42_automaton_step.md R161) -/
  | iter
  /-- the modular mask on one byte (43_cipher_engine.md R177) -/
  | mask
  /-- the modular unmask on one byte (43_cipher_engine.md R178) -/
  | unmask
  /-- encrypt one byte (43_cipher_engine.md R179) -/
  | encpix
  /-- decrypt one byte (43_cipher_engine.md R180) -/
  | decpix
  /-- evolve the grid in place (43_cipher_engine.md R188) -/
  | run
  /-- encrypt the grid in place (43_cipher_engine.md R189) -/
  | encrypt
  /-- decrypt the grid in place (43_cipher_engine.md R190) -/
  | decrypt
deriving DecidableEq, Repr

end Sys2Proof
end

