-- ==== Sys2Proof/Decode.lean ====
section
/-! DEFINITION. The command word, 30_encoding.md R90 to R92: OP in bits 3:0, bits 31:4 reserved and 0. The decoder is total over all
2^32 words and names why it rejects one; the encoder is written from the same opcode map. -/

namespace Sys2Proof

/-- Why a word is ILLEGAL (30_encoding.md R92, R98 (a)). -/
inductive IllegalWord
  /-- CMD[31:4] is not 0 -/
  | reservedBits
  /-- OP is 0xB..0xF -/
  | reservedOp
deriving DecidableEq, Repr

/-- The opcode map of 30_encoding.md R91, on the field OP. -/
def decodeOp (op : BitVec 4) : Except IllegalWord Instr :=
  match op.toNat with
  | 0x0 => .ok .nop
  | 0x1 => .ok .eval
  | 0x2 => .ok .step
  | 0x3 => .ok .iter
  | 0x4 => .ok .mask
  | 0x5 => .ok .unmask
  | 0x6 => .ok .encpix
  | 0x7 => .ok .decpix
  | 0x8 => .ok .run
  | 0x9 => .ok .encrypt
  | 0xA => .ok .decrypt
  | _ => .error .reservedOp

/-- `decode(w)` of 30_encoding.md R92. -/
def decode (w : Word) : Except IllegalWord Instr :=
  if w.extractLsb 31 4 ≠ 0 then .error .reservedBits
  else decodeOp (w.extractLsb 3 0)

/-- The word of each command, 30_encoding.md R91. -/
def encode : Instr → Word
  | .nop => 0x00000000
  | .eval => 0x00000001
  | .step => 0x00000002
  | .iter => 0x00000003
  | .mask => 0x00000004
  | .unmask => 0x00000005
  | .encpix => 0x00000006
  | .decpix => 0x00000007
  | .run => 0x00000008
  | .encrypt => 0x00000009
  | .decrypt => 0x0000000A

/-- The command word given as a number of `nbits` bits; every bit above them is 0. `none` where the number is no 32-bit word. -/
def tableWord (nbits w : Nat) : Option Word :=
  if w % 2 ^ nbits < 2 ^ 32 then some (BitVec.ofNat 32 (w % 2 ^ nbits)) else none

/-- The command the decoder reads from a table row's bits: the block takes a command as one 32-bit datum of a CMD write
(30_encoding.md R90), so the row's bits are that datum. -/
def decodeTableWord (nbits w : Nat) : Option Instr :=
  match tableWord nbits w with
  | some word => (decode word).toOption
  | none => none

end Sys2Proof
end

