-- ==== Sys2Proof/Config.lean ====
section
/-! DEFINITION. What an implementation fixes when it is built (00_scope.md R9, R10), and the one free value of the model.
The opaque constants have no body: no proof can learn what they are, so a claim holds whatever they are. -/

namespace Sys2Proof

/-- `P_RULE165_MODE` (00_scope.md R10): the two meanings of rule identifier 165. -/
inductive Rule165Mode
  /-- `XNOR_AC`, the spec's default: rule 165 is XNOR(a, c). -/
  | xnorAc
  /-- `CONST_ONE`: rule 165 is always 1. -/
  | constOne
deriving DecidableEq, Repr

/-- The implementation parameters of 00_scope.md R9 and R10. One value for the life of a machine. -/
structure Config where
  /-- `P_MAX_PIXELS`, the capacity of the grid memory in pixels (00_scope.md R9). -/
  maxPixels : Nat
  /-- `P_RULE165_MODE` (00_scope.md R10). -/
  rule165 : Rule165Mode
deriving DecidableEq, Repr

/-- The range 00_scope.md R9 gives the capacity: `1 <= P_MAX_PIXELS <= 2^32-1`. -/
abbrev Config.valid (c : Config) : Prop := 1 ≤ c.maxPixels ∧ c.maxPixels ≤ 2 ^ 32 - 1

/-- The index of the last grid cell of the machine built (OPEN in the spec, 92_eei_decisions.md D6; entry 1). -/
opaque Config.lastPixel : Fin 4294967295

/-- Whether the machine built reads rule 165 as always 1 (OPEN in the spec, 92_eei_decisions.md D12; entry 2). -/
opaque Config.constOneBuilt : Bool

/-- The parameters of the machine that `State.reset` describes, both left open (entries 1 and 2). -/
def Config.build : Config where
  maxPixels := Config.lastPixel.val + 1
  rule165 := bif Config.constOneBuilt then .constOne else .xnorAc

/-- FREE VALUE (entry 10): what a table slot holding an unsupported identifier would evaluate to. `evaluate` is defined only for
the nine supported identifiers, and the accept checks keep every other one away from it (41_rule_evaluator.md R131). -/
opaque Config.unsupportedRule : Byte → Bool → Bool → Bool → Bool

end Sys2Proof
end

