-- ==== Sys2Proof/Machine/Port.lean ====
section
/-! DEFINITION. What stands at the block's boundary: the register map, the transactions of the two ports, the other events of a
run, what a read returns, and the error codes. -/

namespace Sys2Proof.Machine

/-- The twelve defined registers (10_state.md R22). -/
inductive Reg
  | cmd | status | irqEn | cycles | height | width | rules0 | rules1 | operand | result | maxpix | features
deriving DecidableEq, Repr

/-- The register at a 6-bit index (10_state.md R22); `none` is a reserved index, 12..63 (R42). -/
def Reg.ofIndex (i : BitVec 6) : Option Reg :=
  match i.toNat with
  | 0 => some .cmd
  | 1 => some .status
  | 2 => some .irqEn
  | 3 => some .cycles
  | 4 => some .height
  | 5 => some .width
  | 6 => some .rules0
  | 7 => some .rules1
  | 8 => some .operand
  | 9 => some .result
  | 10 => some .maxpix
  | 11 => some .features
  | _ => none

/-- The index of a register (10_state.md R22). -/
def Reg.index : Reg → BitVec 6
  | .cmd => 0
  | .status => 1
  | .irqEn => 2
  | .cycles => 3
  | .height => 4
  | .width => 5
  | .rules0 => 6
  | .rules1 => 7
  | .operand => 8
  | .result => 9
  | .maxpix => 10
  | .features => 11

/-- The registers a write to which is ignored, and sets IGN, while BUSY = 1 (20_memory.md R64). -/
def Reg.busyProtected : Reg → Bool
  | .cmd | .cycles | .height | .width | .rules0 | .rules1 | .operand => true
  | .status | .irqEn | .result | .maxpix | .features => false

/-- One event of a run (00_scope.md R6, R17): a host transaction on one of the ports, a turn of the engine, or an event of the
environment. -/
inductive Event
  /-- `RegRead(i)` (20_memory.md R61) -/
  | regRead (i : BitVec 6)
  /-- `RegWrite(i, w)` (20_memory.md R61) -/
  | regWrite (i : BitVec 6) (w : Word)
  /-- `GridRead(a)` (20_memory.md R65) -/
  | gridRead (a : Nat)
  /-- `GridWrite(a, v)` (20_memory.md R65) -/
  | gridWrite (a : Nat) (v : Byte)
  /-- the engine's turn: it completes the command in flight, if there is one (43_cipher_engine.md R172) -/
  | engine
  /-- a reset pulse (70_reset_and_hazards.md R240) -/
  | reset
  /-- power removed and restored (60_exceptions.md R231) -/
  | powerCycle
deriving DecidableEq, Repr

/-- What the transaction just taken returned to the host: `reg_rdata` or `grid_rdata` of 20_memory.md R60, or nothing. -/
inductive Response
  | none
  | reg (w : Word)
  | grid (v : Byte)
deriving DecidableEq, Repr

/-- The causes of a command error (60_exceptions.md R211). -/
inductive ErrorCode
  /-- ILLEGAL_CMD -/
  | illegalCmd
  /-- BAD_RULE -/
  | badRule
  /-- BAD_CYCLES -/
  | badCycles
  /-- BAD_DIM -/
  | badDim
deriving DecidableEq, Repr

/-- The value recorded in STATUS.ECODE (60_exceptions.md R211); 0 is "no error", 5..15 are never produced. -/
def ErrorCode.code : ErrorCode → BitVec 4
  | .illegalCmd => 1
  | .badRule => 2
  | .badCycles => 3
  | .badDim => 4

/-- `P_GRID_AW = max(1, ceil(log2(P_MAX_PIXELS)))`, the grid-port address width (00_scope.md R9). -/
def gridAddrWidth (maxPixels : Nat) : Nat :=
  max 1 (if maxPixels ≤ 1 then 0 else (maxPixels - 1).log2 + 1)

end Sys2Proof.Machine
end

