-- ==== Sys2Proof/Machine/State.lean ====
section
/-! DEFINITION. The whole state of the block (10_state.md R46), the reasons a step stops, and the state after reset. -/

namespace Sys2Proof.Machine

/-- The grid memory (10_state.md R40): the cells that hold a value, as (index, byte) pairs with strictly rising indices. A cell
that is not listed is poison. -/
abbrev Memory := List Host.Cell

/-- Why a step stops with a fault. -/
inductive Fault
  /-- POISON_READ(a) (20_memory.md R68, 60_exceptions.md R215): raised by a host read of a grid cell that holds poison. Safe: the
  chip returns some byte there, and the model gives it no value. -/
  | poisonRead (a : Nat)
  /-- raised by a grid transaction whose address is `2^P_GRID_AW` or more, which the port cannot carry (20_memory.md R65). Safe: no
  host can perform it (entry 12). -/
  | addressOffPort (a : Nat)
deriving DecidableEq, Repr

/-- Why a step is refused. -/
inductive Refusal
  /-- raised by `exec` for a command that has no meaning yet; no arm does. Safe. -/
  | notModelled (mnemonic : String)
  /-- raised by a turn of the engine where BUSY = 1 and CMD holds no legal command. Safe: no run reaches such a state, since only
  the accept of a legal command sets BUSY (10_state.md R25; entry 9). -/
  | illegalWordInFlight (w : Word)
deriving DecidableEq, Repr

/-- The state of the block (10_state.md R46), its build parameters, and the model's two fields `schedule` and `response`. -/
structure State where
  /-- `P_MAX_PIXELS` and `P_RULE165_MODE` (00_scope.md R9, R10); no step changes them -/
  cfg : Config
  /-- CMD: the last accepted command word (10_state.md R23) -/
  cmd : Word
  /-- STATUS.BUSY: a command is in flight (10_state.md R25) -/
  busy : Bool
  /-- STATUS.DONE (10_state.md R26) -/
  done : Bool
  /-- STATUS.ERR (10_state.md R27) -/
  err : Bool
  /-- STATUS.IGN (10_state.md R28) -/
  ign : Bool
  /-- STATUS.ECODE (10_state.md R27) -/
  ecode : BitVec 4
  /-- IRQ_EN.IE (10_state.md R29) -/
  ie : Bool
  /-- CYCLES (10_state.md R35) -/
  cycles : Word
  /-- HEIGHT[15:0] (10_state.md R36) -/
  height : BitVec 16
  /-- WIDTH[15:0] (10_state.md R37) -/
  width : BitVec 16
  /-- RT[0..7], seen as RULES0 and RULES1 (10_state.md R30 to R32) -/
  rt : Vector Byte 8
  /-- OPERAND (10_state.md R38) -/
  operand : Word
  /-- RESULT (10_state.md R39) -/
  result : Word
  /-- the grid memory G (10_state.md R40) -/
  grid : Memory
  /-- MODEL: the events still to happen, oldest first (entry 3) -/
  schedule : List Event
  /-- MODEL: what the step just taken returned to the host (entry 6) -/
  response : Response
deriving DecidableEq, Repr

/-- A machine built with the parameters `c`, right after power-on: every register 0 (70_reset_and_hazards.md R241), every grid
cell poison (R243), no event given yet. -/
def State.powerOn (c : Config) : State where
  cfg := c
  cmd := 0
  busy := false
  done := false
  err := false
  ign := false
  ecode := 0
  ie := false
  cycles := 0
  height := 0
  width := 0
  rt := Vector.replicate 8 0
  operand := 0
  result := 0
  grid := []
  schedule := []
  response := .none

/-- The machine right after reset at power-on (70_reset_and_hazards.md R241, R243), its parameters left open. -/
def State.reset : State := State.powerOn Config.build

end Sys2Proof.Machine
end

