-- ==== Sys2Proof/Machine/Flags.lean ====
section
/-! DEFINITION. The flags: the STATUS bits BUSY, DONE, ERR, IGN and the field ECODE, what sets and clears each (10_state.md R24 to R28,
R47), and the interrupt output. No computed value sets a flag (R47). -/

namespace Sys2Proof.Machine

/-- The STATUS word: BUSY bit 0, DONE 1, ERR 2, IGN 3, ECODE 7:4, the rest 0 (10_state.md R24). -/
def State.statusWord (s : State) : Word :=
  0#24 ++ s.ecode ++ BitVec.ofBool s.ign ++ BitVec.ofBool s.err ++ BitVec.ofBool s.done ++ BitVec.ofBool s.busy

/-- The interrupt output, `irq = IRQ_EN.IE & STATUS.DONE` (60_exceptions.md R220). -/
def State.irq (s : State) : Bool := s.ie && s.done

/-- `grid_ready`, the complement of BUSY (20_memory.md R60, R66). -/
def State.gridReady (s : State) : Bool := !s.busy

/-- A write of STATUS, the return from a command's outcome (60_exceptions.md R224): bits 1, 2 and 3 of the word clear DONE, ERR with
ECODE, and IGN; every other bit is ignored (10_state.md R24). -/
def State.writeStatus (s : State) (w : Word) : State :=
  { s with
    done := s.done && !w.getLsbD 1
    err := s.err && !w.getLsbD 2
    ecode := if w.getLsbD 2 then 0 else s.ecode
    ign := s.ign && !w.getLsbD 3 }

/-- `DONE <- 0 ; ERR <- 0 ; ECODE <- 0`, at every accept (43_cipher_engine.md R171). -/
def State.clearOutcome (s : State) : State := { s with done := false, err := false, ecode := 0 }

/-- `IGN <- 1`, for a register write ignored because BUSY = 1 (20_memory.md R64). -/
def State.setIgn (s : State) : State := { s with ign := true }

/-- `BUSY <- 1`: the command is in flight (43_cipher_engine.md R171). -/
def State.setBusy (s : State) : State := { s with busy := true }

/-- `BUSY <- 0 ; DONE <- 1`: the command has completed (43_cipher_engine.md R172). -/
def State.finish (s : State) : State := { s with busy := false, done := true }

end Sys2Proof.Machine
end

