-- ==== Sys2Proof/Machine/Memory.lean ====
section
/-! DEFINITION. The grid memory's operations (10_state.md R40): each keeps the indices strictly rising. -/

namespace Sys2Proof.Machine

/-- The canonical form: indices strictly rise. A listed cell holds a value and an unlisted one is poison, so no listed cell equals
what an unlisted one reads as. -/
abbrev Memory.wf (m : Memory) : Prop := m.Pairwise (fun c d => c.1 < d.1)

/-- `MemRead(a, 1)` (00_scope.md R16): the cell's value, or `none` for poison. -/
def Memory.read : Memory → Nat → Option Byte
  | [], _ => none
  | (k, b) :: m, a => if k = a then some b else Memory.read m a

/-- `MemWrite(a, 1, v)` (00_scope.md R16). -/
def Memory.write : Memory → Nat → Byte → Memory
  | [], a, v => [(a, v)]
  | (k, b) :: m, a, v =>
    if a < k then (a, v) :: (k, b) :: m
    else if a = k then (a, v) :: m
    else (k, b) :: Memory.write m a v

/-- `for i in 0..n-1: G[i] <- f(G[i])`, every cell from its own old value, poison staying poison (43_cipher_engine.md R172, R186). -/
def Memory.mapBelow (m : Memory) (n : Nat) (f : Byte → Byte) : Memory :=
  m.map fun c => if c.1 < n then (c.1, f c.2) else c

/-- Cells `0..n-1` become poison (70_reset_and_hazards.md R242). -/
def Memory.poisonBelow (m : Memory) (n : Nat) : Memory :=
  m.filter fun c => decide (n ≤ c.1)

end Sys2Proof.Machine
end

