-- ==== Sys2Proof/Machine/Operands.lean ====
section
/-! DEFINITION. The operands of the commands, all of them in registers (30_encoding.md R93, R95), and the packing of the rule table
into RULES0 and RULES1 (10_state.md R31, R32). -/

namespace Sys2Proof.Machine

/-- X = OPERAND[7:0], the pixel of the scalar commands (30_encoding.md R93). -/
def State.operandX (s : State) : Byte := s.operand.extractLsb' 0 8

/-- RID = OPERAND[7:0], the rule identifier of EVAL (30_encoding.md R93). -/
def State.operandRid (s : State) : Byte := s.operand.extractLsb' 0 8

/-- A = OPERAND[10], the left cell of EVAL (30_encoding.md R93). -/
def State.operandA (s : State) : Bool := s.operand.getLsbD 10

/-- B = OPERAND[9], the centre cell of EVAL (30_encoding.md R93). -/
def State.operandB (s : State) : Bool := s.operand.getLsbD 9

/-- C = OPERAND[8], the right cell of EVAL (30_encoding.md R93). -/
def State.operandC (s : State) : Bool := s.operand.getLsbD 8

/-- N = HEIGHT[15:0] * WIDTH[15:0], exactly (10_state.md R41). -/
def State.pixelCount (s : State) : Nat := s.height.toNat * s.width.toNat

/-- `zext_32` of a byte (30_encoding.md R97). -/
def zextByte (v : Byte) : Word := v.setWidth 32

/-- `zext_32` of a bit (30_encoding.md R97). -/
def zextBit (b : Bool) : Word := (BitVec.ofBool b).setWidth 32

/-- RULES0 = {RT[3], RT[2], RT[1], RT[0]} (10_state.md R31). -/
def rules0Word (rt : Vector Byte 8) : Word := rt[3] ++ rt[2] ++ rt[1] ++ rt[0]

/-- RULES1 = {RT[7], RT[6], RT[5], RT[4]} (10_state.md R32). -/
def rules1Word (rt : Vector Byte 8) : Word := rt[7] ++ rt[6] ++ rt[5] ++ rt[4]

/-- The table after a write of RULES0: slots 0..3 from the word (10_state.md R31). -/
def setRules0 (rt : Vector Byte 8) (w : Word) : Vector Byte 8 :=
  #v[w.extractLsb' 0 8, w.extractLsb' 8 8, w.extractLsb' 16 8, w.extractLsb' 24 8, rt[4], rt[5], rt[6], rt[7]]

/-- The table after a write of RULES1: slots 4..7 from the word (10_state.md R32). -/
def setRules1 (rt : Vector Byte 8) (w : Word) : Vector Byte 8 :=
  #v[rt[0], rt[1], rt[2], rt[3], w.extractLsb' 0 8, w.extractLsb' 8 8, w.extractLsb' 16 8, w.extractLsb' 24 8]

end Sys2Proof.Machine
end

