-- ==== Sys2Proof/Machine/RuleEvaluator.lean ====
section
/-! DEFINITION. RuleEvaluator (41_rule_evaluator.md): the nine supported rule identifiers and the bit each gives a neighbourhood. -/

namespace Sys2Proof.Machine

/-- The nine supported rule identifiers (41_rule_evaluator.md R130). -/
inductive RuleId
  | r51 | r85 | r86 | r102 | r105 | r150 | r153 | r165 | r240
deriving DecidableEq, Repr

/-- The rule a byte identifies (30_encoding.md R94); `none` for each of the 247 unsupported values. -/
def RuleId.ofByte (r : Byte) : Option RuleId :=
  match r.toNat with
  | 51 => some .r51
  | 85 => some .r85
  | 86 => some .r86
  | 102 => some .r102
  | 105 => some .r105
  | 150 => some .r150
  | 153 => some .r153
  | 165 => some .r165
  | 240 => some .r240
  | _ => none

/-- `supported(r)` (41_rule_evaluator.md R130). -/
def supported (r : Byte) : Bool := (RuleId.ofByte r).isSome

/-- The document's expression of each rule (41_rule_evaluator.md R132 to R140), with a the left cell, b the centre, c the right.
Rule 165 follows `P_RULE165_MODE` (R139; 90_conflicts.md C1). -/
def RuleId.apply (m : Rule165Mode) (r : RuleId) (a b c : Bool) : Bool :=
  match r with
  | .r51 => !b
  | .r85 => !c
  | .r86 => (a && !c) || (b && !c) || (c && !a && !b)
  | .r102 => (b && !c) || (c && !b)
  | .r105 => (a && b && !c) || (a && c && !b) || (b && c && !a) || (!a && !b && !c)
  | .r150 => (a && b && c) || (a && !b && !c) || (b && !a && !c) || (c && !a && !b)
  | .r153 => (b && c) || (!b && !c)
  | .r165 =>
    match m with
    | .xnorAc => (a && c) || (!a && !c)
    | .constOne => true
  | .r240 => a

/-- `evaluate(r, a, b, c)` on an identifier byte (41_rule_evaluator.md R131). An unsupported one never reaches it; there the value
is free (entry 10). -/
def evaluate (m : Rule165Mode) (r : Byte) (a b c : Bool) : Bool :=
  match RuleId.ofByte r with
  | some id => id.apply m a b c
  | none => Config.unsupportedRule r a b c

/-- Every slot of the table holds a supported identifier (the table check of 60_exceptions.md R212). -/
def tableSupported (rt : Vector Byte 8) : Bool :=
  supported rt[0] && supported rt[1] && supported rt[2] && supported rt[3]
    && supported rt[4] && supported rt[5] && supported rt[6] && supported rt[7]

end Sys2Proof.Machine
end

