-- ==== Sys2Proof/Machine/Ops.lean ====
section
/-! DEFINITION. The named operations: the register port, the grid port, the checks of an accept, taking a command error, the two
steps of a command's life, and the reset events. -/

namespace Sys2Proof.Machine

/-! ### The register port -/

/-- `RegRead`: the stored fields, 0 in reserved fields (20_memory.md R62; 10_state.md R22 to R39). -/
def State.readReg (s : State) : Reg → Word
  | .cmd => s.cmd
  | .status => s.statusWord
  | .irqEn => zextBit s.ie
  | .cycles => s.cycles
  | .height => s.height.setWidth 32
  | .width => s.width.setWidth 32
  | .rules0 => rules0Word s.rt
  | .rules1 => rules1Word s.rt
  | .operand => s.operand
  | .result => s.result
  | .maxpix => BitVec.ofNat 32 s.cfg.maxPixels
  | .features =>
    match s.cfg.rule165 with
    | .xnorAc => 0
    | .constOne => 1

/-- `RegRead(i)` at a 6-bit index; a reserved index reads 0 (10_state.md R42). -/
def State.readIndex (s : State) (i : BitVec 6) : Word :=
  match Reg.ofIndex i with
  | some r => s.readReg r
  | none => 0

/-- What an honoured write stores (20_memory.md R63): fields only, reserved bits dropped; a read-only register ignores it. For CMD
this is the first line of the accept (43_cipher_engine.md R171). -/
def State.storeReg (s : State) (r : Reg) (w : Word) : State :=
  match r with
  | .cmd => { s with cmd := w }
  | .status => s.writeStatus w
  | .irqEn => { s with ie := w.getLsbD 0 }
  | .cycles => { s with cycles := w }
  | .height => { s with height := w.setWidth 16 }
  | .width => { s with width := w.setWidth 16 }
  | .rules0 => { s with rt := setRules0 s.rt w }
  | .rules1 => { s with rt := setRules1 s.rt w }
  | .operand => { s with operand := w }
  | .result | .maxpix | .features => s

/-- Leave the read value for the host (20_memory.md R60, R61; entry 6). -/
def State.respond (s : State) (r : Response) : State := { s with response := r }

/-- The events still to happen are `rest` (entry 3). -/
def State.withSchedule (s : State) (rest : List Event) : State := { s with schedule := rest }

/-- The grid memory holds `g`. -/
def State.setGrid (s : State) (g : Memory) : State := { s with grid := g }

/-! ### The grid port -/

/-- `GridRead(a)` while the port is ready: a cell's value, 0x00 beyond the capacity (20_memory.md R67), POISON_READ on a poison cell
(R68). -/
def State.gridRead (s : State) (a : Nat) : Host.Outcome State Fault Refusal :=
  if 2 ^ gridAddrWidth s.cfg.maxPixels ≤ a then .fault (.addressOffPort a)
  else if s.cfg.maxPixels ≤ a then .next (s.respond (.grid 0))
  else
    match s.grid.read a with
    | some v => .next (s.respond (.grid v))
    | none => .fault (.poisonRead a)

/-- `GridWrite(a, v)` while the port is ready (20_memory.md R65); ignored beyond the capacity (R67). -/
def State.gridWrite (s : State) (a : Nat) (v : Byte) : Host.Outcome State Fault Refusal :=
  if 2 ^ gridAddrWidth s.cfg.maxPixels ≤ a then .fault (.addressOffPort a)
  else if s.cfg.maxPixels ≤ a then .next s
  else .next (s.setGrid (s.grid.write a v))

/-! ### The checks of an accept (60_exceptions.md R212) -/

/-- `op == EVAL and not supported(OPERAND[7:0])` gives BAD_RULE. -/
def State.ridError (s : State) : Option ErrorCode := if supported s.operandRid then none else some .badRule

/-- `exists k in 0..7 with not supported(RT[k])` gives BAD_RULE. -/
def State.tableError (s : State) : Option ErrorCode := if tableSupported s.rt then none else some .badRule

/-- `CYCLES == 0` gives BAD_CYCLES. -/
def State.cyclesError (s : State) : Option ErrorCode := if s.cycles = 0 then some .badCycles else none

/-- `HEIGHT[15:0] * WIDTH[15:0] > P_MAX_PIXELS` gives BAD_DIM. -/
def State.sizeError (s : State) : Option ErrorCode :=
  if s.cfg.maxPixels < s.pixelCount then some .badDim else none

/-! ### A command's life -/

/-- `CMD <- w ; DONE <- 0 ; ERR <- 0 ; ECODE <- 0`, the start of every accept (43_cipher_engine.md R171). -/
def State.accept (s : State) (w : Word) : State := (s.storeReg .cmd w).clearOutcome

/-- TAKING A COMMAND ERROR, the block's one exception entry (60_exceptions.md R213, R223): `DONE <- 1 ; ERR <- 1 ; ECODE <- code`, BUSY
stays 0 and nothing else changes; CMD already holds the word. -/
def State.takeError (s : State) (e : ErrorCode) : State := { s with done := true, err := true, ecode := e.code }

/-- The accept of the word `w` with the outcome of its checks: in error, or in flight (43_cipher_engine.md R171). -/
def State.issue (s : State) (w : Word) (checks : Option ErrorCode) : State :=
  match checks with
  | some e => (s.accept w).takeError e
  | none => (s.accept w).setBusy

/-- One step of the command `i`: its completion where a command is in flight, its accept where none is (43_cipher_engine.md R171,
R172; entry 7). -/
def State.runCommand (s : State) (i : Instr) (checks : Option ErrorCode) (effect : State) :
    Host.Outcome State Fault Refusal :=
  if s.busy then .next effect.finish else .next (s.issue (encode i) checks)

/-- `RESULT <- v` (10_state.md R39). -/
def State.setResult (s : State) (v : Word) : State := { s with result := v }

/-- `for i in 0..N-1: G[i] <- f(G[i])` (43_cipher_engine.md R172). -/
def State.mapGrid (s : State) (f : Byte → Byte) : State := s.setGrid (s.grid.mapBelow s.pixelCount f)

/-! ### Reset -/

/-- A RUN, ENCRYPT or DECRYPT is in flight (70_reset_and_hazards.md R242). -/
def State.gridCommandInFlight (s : State) : Bool :=
  s.busy &&
    match decode s.cmd with
    | .ok .run | .ok .encrypt | .ok .decrypt => true
    | _ => false

/-- The reset event (70_reset_and_hazards.md R241 to R243): every register to its reset value; the grid kept, but for cells
`0..N-1` of a grid command in flight, which become poison. -/
def State.hardReset (s : State) : State :=
  { State.powerOn s.cfg with
    grid := if s.gridCommandInFlight then s.grid.poisonBelow s.pixelCount else s.grid
    schedule := s.schedule }

/-- Power removed and restored (60_exceptions.md R231; 10_state.md R40): registers at reset, every cell poison (entry 15). -/
def State.powerCycle (s : State) : State := (State.powerOn s.cfg).withSchedule s.schedule

end Sys2Proof.Machine
end

