-- ==== Sys2Proof/Machine/Control.lean ====
section
/-! DEFINITION. The control command: NOP (43_cipher_engine.md R170). -/

namespace Sys2Proof.Machine

/-- NOP (43_cipher_engine.md R170): the accept sets DONE again at once, with no BUSY period. NOP is never in flight; where BUSY = 1
the step is a completion with no effect (R172 lists none for it; entry 8). -/
def execNop (s : State) : Host.Outcome State Fault Refusal :=
  if s.busy then .next s.finish else .next (s.accept (encode .nop)).finish

end Sys2Proof.Machine
end

