-- ==== Sys2Proof/Machine/BitCodec.lean ====
section
/-! DEFINITION. BitCodec (40_bitcodec.md): a byte as eight positions, position 0 the most significant bit. -/

namespace Sys2Proof.Machine

/-- A BitVector of the document: exactly 8 positions, index 0 the most significant bit (00_scope.md R7, R18). -/
abbrev BitVector := Vector Bool 8

/-- `encode(v)`: `bv[k] = v[7-k]` (40_bitcodec.md R120). -/
def encodeBits (v : Byte) : BitVector :=
  #v[v.getLsbD 7, v.getLsbD 6, v.getLsbD 5, v.getLsbD 4, v.getLsbD 3, v.getLsbD 2, v.getLsbD 1, v.getLsbD 0]

/-- `decode(bv)`: the sum over k of `bv[k] * 2^(7-k)` (40_bitcodec.md R121). -/
def decodeBits (bv : BitVector) : Byte :=
  BitVec.ofNat 8 (bv[0].toNat * 2 ^ 7 + bv[1].toNat * 2 ^ 6 + bv[2].toNat * 2 ^ 5 + bv[3].toNat * 2 ^ 4
    + bv[4].toNat * 2 ^ 3 + bv[5].toNat * 2 ^ 2 + bv[6].toNat * 2 ^ 1 + bv[7].toNat * 2 ^ 0)

end Sys2Proof.Machine
end

