-- ==== Sys2Proof/Machine/Automaton.lean ====
section
/-! DEFINITION. AutomatonStep and its iteration (42_automaton_step.md), and the modular mask pair (43_cipher_engine.md R175, R176). -/

namespace Sys2Proof.Machine

/-- The left cell of position k: position k-1, or the fixed boundary 0 (42_automaton_step.md R150, R152). -/
def leftCell (bv : BitVector) (k : Fin 8) : Bool := if k.val = 0 then false else bv[k.val - 1]

/-- The right cell of position k: position k+1, or the fixed boundary 0 (42_automaton_step.md R150, R152). -/
def rightCell (bv : BitVector) (k : Fin 8) : Bool := if h : k.val = 7 then false else bv[k.val + 1]

/-- `nbv[k]`: the next bit of position k, from the round-start BitVector only (42_automaton_step.md R150, R151). -/
def nextBit (m : Rule165Mode) (rt : Vector Byte 8) (bv : BitVector) (k : Fin 8) : Bool :=
  evaluate m rt[k] (leftCell bv k) bv[k] (rightCell bv k)

/-- `step(p, RT)`: one synchronous round of one pixel (42_automaton_step.md R150). -/
def automatonStep (m : Rule165Mode) (rt : Vector Byte 8) (p : Byte) : Byte :=
  let bv := encodeBits p
  decodeBits #v[nextBit m rt bv 0, nextBit m rt bv 1, nextBit m rt bv 2, nextBit m rt bv 3,
    nextBit m rt bv 4, nextBit m rt bv 5, nextBit m rt bv 6, nextBit m rt bv 7]

/-- `iter(p, RT, n) = step^n(p)`: round j+1 reads only the result of round j (42_automaton_step.md R157). -/
def iterPixel (m : Rule165Mode) (rt : Vector Byte 8) : Nat → Byte → Byte
  | 0, p => p
  | n + 1, p => iterPixel m rt n (automatonStep m rt p)

/-- `mask(x) = (x * 187) mod 256` (43_cipher_engine.md R175). -/
def maskByte (x : Byte) : Byte := BitVec.ofNat 8 (x.toNat * 187)

/-- `unmask(x) = (x * 115) mod 256` (43_cipher_engine.md R176). -/
def unmaskByte (x : Byte) : Byte := BitVec.ofNat 8 (x.toNat * 115)

/-- The pixel after CYCLES rounds of the state's table: `iter(p, RT, c)` of 43_cipher_engine.md R172. -/
def State.evolve (s : State) (p : Byte) : Byte := iterPixel s.cfg.rule165 s.rt s.cycles.toNat p

/-- `mask(iter(p, RT, c))`: evolve, then mask (43_cipher_engine.md R187; 90_conflicts.md C3). -/
def State.encryptByte (s : State) (p : Byte) : Byte := maskByte (s.evolve p)

/-- `iter(unmask(p), RT, c)`: unmask, then evolve (43_cipher_engine.md R187). -/
def State.decryptByte (s : State) (p : Byte) : Byte := s.evolve (unmaskByte p)

end Sys2Proof.Machine
end

