-- ==== Sys2Proof/Machine/Grid.lean ====
section
/-! DEFINITION. The grid commands: each maps cells 0..N-1 of the grid in place and leaves RESULT alone (43_cipher_engine.md R186 to R190). -/

namespace Sys2Proof.Machine

/-- RUN (43_cipher_engine.md R188). -/
def execRun (s : State) : Host.Outcome State Fault Refusal :=
  s.runCommand .run ((s.tableError.or s.cyclesError).or s.sizeError) (s.mapGrid s.evolve)

/-- ENCRYPT (43_cipher_engine.md R189). -/
def execEncrypt (s : State) : Host.Outcome State Fault Refusal :=
  s.runCommand .encrypt ((s.tableError.or s.cyclesError).or s.sizeError) (s.mapGrid s.encryptByte)

/-- DECRYPT (43_cipher_engine.md R190). -/
def execDecrypt (s : State) : Host.Outcome State Fault Refusal :=
  s.runCommand .decrypt ((s.tableError.or s.cyclesError).or s.sizeError) (s.mapGrid s.decryptByte)

end Sys2Proof.Machine
end

