-- ==== Sys2Proof/Machine/Scalar.lean ====
section
/-! DEFINITION. The scalar commands: each writes RESULT at completion and touches no grid cell (10_state.md R39, 20_memory.md R73). -/

namespace Sys2Proof.Machine

/-- EVAL (41_rule_evaluator.md R145). -/
def execEval (s : State) : Host.Outcome State Fault Refusal :=
  s.runCommand .eval s.ridError
    (s.setResult (zextBit (evaluate s.cfg.rule165 s.operandRid s.operandA s.operandB s.operandC)))

/-- STEP (42_automaton_step.md R160). -/
def execStep (s : State) : Host.Outcome State Fault Refusal :=
  s.runCommand .step s.tableError (s.setResult (zextByte (automatonStep s.cfg.rule165 s.rt s.operandX)))

/-- ITER (42_automaton_step.md R161). -/
def execIter (s : State) : Host.Outcome State Fault Refusal :=
  s.runCommand .iter (s.tableError.or s.cyclesError) (s.setResult (zextByte (s.evolve s.operandX)))

/-- MASK (43_cipher_engine.md R177). -/
def execMask (s : State) : Host.Outcome State Fault Refusal :=
  s.runCommand .mask none (s.setResult (zextByte (maskByte s.operandX)))

/-- UNMASK (43_cipher_engine.md R178). -/
def execUnmask (s : State) : Host.Outcome State Fault Refusal :=
  s.runCommand .unmask none (s.setResult (zextByte (unmaskByte s.operandX)))

/-- ENCPIX (43_cipher_engine.md R179). -/
def execEncpix (s : State) : Host.Outcome State Fault Refusal :=
  s.runCommand .encpix (s.tableError.or s.cyclesError) (s.setResult (zextByte (s.encryptByte s.operandX)))

/-- DECPIX (43_cipher_engine.md R180). -/
def execDecpix (s : State) : Host.Outcome State Fault Refusal :=
  s.runCommand .decpix (s.tableError.or s.cyclesError) (s.setResult (zextByte (s.decryptByte s.operandX)))

end Sys2Proof.Machine
end

