-- ==== Sys2Proof/Machine/Dispatch.lean ====
section
/-! DEFINITION. One arm per command: its meaning. -/

namespace Sys2Proof.Machine

def exec (i : Instr) (s : State) : Host.Outcome State Fault Refusal :=
  match i with
  | .nop => Sys2Proof.Machine.execNop s
  | .eval => Sys2Proof.Machine.execEval s
  | .step => Sys2Proof.Machine.execStep s
  | .iter => Sys2Proof.Machine.execIter s
  | .mask => Sys2Proof.Machine.execMask s
  | .unmask => Sys2Proof.Machine.execUnmask s
  | .encpix => Sys2Proof.Machine.execEncpix s
  | .decpix => Sys2Proof.Machine.execDecpix s
  | .run => Sys2Proof.Machine.execRun s
  | .encrypt => Sys2Proof.Machine.execEncrypt s
  | .decrypt => Sys2Proof.Machine.execDecrypt s

end Sys2Proof.Machine
end

