-- ==== Sys2Proof/Machine/Fetch.lean ====
section
/-! DEFINITION. What the next step does: which command it runs, or which transaction or event it performs. The block fetches no
instruction (20_memory.md R81); a command reaches it as the data of a CMD write, and the engine finds the one in flight in CMD. -/

namespace Sys2Proof.Machine

/-- The next step: one step of a command's life, or something that runs no command. -/
inductive Action
  /-- run one step of the command `i` in the state `s` -/
  | run (i : Instr) (s : State)
  /-- no command runs; this is the step's outcome -/
  | done (o : Host.Outcome State Fault Refusal)

/-- The engine's turn, enabled exactly when BUSY = 1 (43_cipher_engine.md R172): the command in flight is the one CMD holds. With
nothing in flight the turn does nothing (entry 4). -/
def State.engineTurn (s : State) : Action :=
  if s.busy then
    match decode s.cmd with
    | .ok i => .run i s
    | .error _ => .done (.refused (.illegalWordInFlight s.cmd))
  else .done (.next s)

/-- A CMD write while BUSY = 0 (43_cipher_engine.md R171): a legal word runs its command's accept; an ILLEGAL word is accepted and
completes at once with ECODE 1 (30_encoding.md R92). -/
def State.commandWrite (s : State) (w : Word) : Action :=
  match decode w with
  | .ok i => .run i s
  | .error _ => .done (.next (s.issue w (some .illegalCmd)))

/-- `RegWrite(i, w)` (20_memory.md R63, R64). -/
def State.regWrite (s : State) (i : BitVec 6) (w : Word) : Action :=
  match Reg.ofIndex i with
  | none => .done (.next s)
  | some r =>
    if s.busy && r.busyProtected then .done (.next s.setIgn)
    else if r = .cmd then s.commandWrite w
    else .done (.next (s.storeReg r w))

/-- A grid transaction waits while BUSY = 1, and the engine's completion is what enables it (20_memory.md R66): the event stays at
the head of the schedule and the engine takes its turn (entry 5). -/
def State.gridTurn (s : State) (rest : List Event) (transaction : State → Host.Outcome State Fault Refusal) : Action :=
  if s.gridReady then .done (transaction (s.withSchedule rest)) else s.engineTurn

/-- What the next step does, by the head of the schedule. With no event left the engine completes what is in flight (weak fairness,
43_cipher_engine.md R173), and an idle block stays as it is (entry 4). The last step's response is gone. -/
def State.nextAction (s : State) : Action :=
  let q := s.respond .none
  match s.schedule with
  | [] => q.engineTurn
  | .engine :: rest => (q.withSchedule rest).engineTurn
  | .regRead i :: rest => .done (.next ((q.withSchedule rest).respond (.reg (s.readIndex i))))
  | .regWrite i w :: rest => (q.withSchedule rest).regWrite i w
  | .gridRead a :: rest => q.gridTurn rest (·.gridRead a)
  | .gridWrite a v :: rest => q.gridTurn rest (·.gridWrite a v)
  | .reset :: rest => .done (.next (q.withSchedule rest).hardReset)
  | .powerCycle :: rest => .done (.next (q.withSchedule rest).powerCycle)

/-- The host is about to write the word `w` to CMD, with no command in flight. -/
def State.withCommand (s : State) (w : Word) : State :=
  { s with busy := false, schedule := .regWrite Reg.cmd.index w :: s.schedule }

end Sys2Proof.Machine
end

