-- ==== Sys2Proof/Machine/Step.lean ====
section
/-! DEFINITION. One step of the machine: one host transaction, one completion, or one event of the environment (00_scope.md R17). -/

namespace Sys2Proof.Machine

/-- One step (00_scope.md R17; 60_exceptions.md R222). -/
def step (s : State) : Host.Outcome State Fault Refusal :=
  match s.nextAction with
  | .run i t => exec i t
  | .done o => o

/-- `s` with the host about to issue the command word `w` (of `nbits` bits): the next step is that CMD write, and a command in
flight, which would have it ignored (20_memory.md R64), is taken away (entry 13). -/
def State.withFetchWord (s : State) (nbits w : Nat) : State :=
  s.withCommand (BitVec.ofNat 32 (w % 2 ^ nbits))

end Sys2Proof.Machine
end

