-- ==== Sys2Proof/WellFormed.lean ====
section
/-! DEFINITION. Which terms the block's interface can carry. A command has no operand field, so every `Instr` is well formed
(30_encoding.md R90). A grid transaction is well formed when its address fits the port (20_memory.md R65). -/

namespace Sys2Proof

/-- Every command is well formed: 30_encoding.md R90 gives its word no operand field that could be out of range. -/
def Instr.wellFormed : Instr → Bool
  | .nop | .eval | .step | .iter | .mask | .unmask | .encpix | .decpix | .run | .encrypt | .decrypt => true

/-- An event that the ports of a machine built with `c` can carry: a grid address is in `0..2^P_GRID_AW-1` (20_memory.md R65);
indices and data are in range by their types. -/
def Machine.Event.wellFormed (c : Config) : Machine.Event → Bool
  | .gridRead a => decide (a < 2 ^ Machine.gridAddrWidth c.maxPixels)
  | .gridWrite a _ => decide (a < 2 ^ Machine.gridAddrWidth c.maxPixels)
  | .regRead _ | .regWrite _ _ | .engine | .reset | .powerCycle => true

end Sys2Proof
end

