-- ==== Sys2Proof/Safety.lean ====
section
/-! DEFINITION. The terms the claims use: the invariant of the machine, what a stop is, and the spec's own pseudo-code and tables
written out a second time, over numbers and without the model's operations (but `uniformStep`, a short name), for the claims
to hold the model against. -/

namespace Sys2Proof.Reference

/-- `supported(r)` as a set of numbers (41_rule_evaluator.md R130). -/
abbrev supportedId (r : Byte) : Prop := r.toNat ∈ [51, 85, 86, 102, 105, 150, 153, 165, 240]

/-- Every slot of the table holds a supported identifier. -/
abbrev supportedTable (rt : Vector Byte 8) : Prop := ∀ k : Fin 8, supportedId rt[k]

/-- `check(w)` of 60_exceptions.md R212, line by line, over the numbers of the word's fields. -/
def check (s : Machine.State) (w : Word) : BitVec 4 :=
  let op := w.toNat % 16
  if w.toNat / 16 ≠ 0 ∨ 0xA < op then 1
  else if op = 1 ∧ ¬ supportedId (BitVec.ofNat 8 (s.operand.toNat % 256)) then 2
  else if op ∈ [2, 3, 6, 7, 8, 9, 10] ∧ ¬ supportedTable s.rt then 2
  else if op ∈ [3, 6, 7, 8, 9, 10] ∧ s.cycles.toNat = 0 then 3
  else if op ∈ [8, 9, 10] ∧ s.cfg.maxPixels < s.height.toNat * s.width.toNat then 4
  else 0

/-- The state after the accept of `w` failed with `code` (60_exceptions.md R213): nothing but CMD, DONE, ERR and ECODE changes. -/
def inError (s : Machine.State) (w : Word) (code : BitVec 4) : Machine.State :=
  { s with cmd := w, done := true, err := true, ecode := code }

/-- The state after the accept of `w` put its command in flight (43_cipher_engine.md R171). -/
def inFlight (s : Machine.State) (w : Word) : Machine.State :=
  { s with cmd := w, done := false, err := false, ecode := 0, busy := true }

/-- `BUSY <- 0 ; DONE <- 1` (43_cipher_engine.md R172). -/
def completed (s : Machine.State) : Machine.State := { s with busy := false, done := true }

/-- The accept of 43_cipher_engine.md R171, line by line. -/
def accept (s : Machine.State) (w : Word) : Machine.State :=
  if check s w ≠ 0 then inError s w (check s w)
  else if w = 0 then { s with cmd := w, done := true, err := false, ecode := 0 }
  else inFlight s w

/-- The state once the event at the head of the schedule is taken: `rest` remains and nothing has been returned to the host. -/
def taken (s : Machine.State) (rest : List Machine.Event) : Machine.State := { s with schedule := rest, response := .none }

/-- What a read of register index i returns, each field at its place by its weight (10_state.md R22 to R39, R42, R43). -/
def readWord (s : Machine.State) (i : BitVec 6) : Word :=
  BitVec.ofNat 32 <|
    match i.toNat with
    | 0 => s.cmd.toNat
    | 1 => s.busy.toNat + 2 * s.done.toNat + 4 * s.err.toNat + 8 * s.ign.toNat + 16 * s.ecode.toNat
    | 2 => s.ie.toNat
    | 3 => s.cycles.toNat
    | 4 => s.height.toNat
    | 5 => s.width.toNat
    | 6 => s.rt[0].toNat + 2 ^ 8 * s.rt[1].toNat + 2 ^ 16 * s.rt[2].toNat + 2 ^ 24 * s.rt[3].toNat
    | 7 => s.rt[4].toNat + 2 ^ 8 * s.rt[5].toNat + 2 ^ 16 * s.rt[6].toNat + 2 ^ 24 * s.rt[7].toNat
    | 8 => s.operand.toNat
    | 9 => s.result.toNat
    | 10 => s.cfg.maxPixels
    | 11 => if s.cfg.rule165 = .constOne then 1 else 0
    | _ => 0

/-- Byte k of a word, as a number divided and cut. -/
def wordByte (w : Word) (k : Nat) : Byte := BitVec.ofNat 8 (w.toNat / 2 ^ (8 * k) % 256)

/-- What an honoured write of register index i does (20_memory.md R63; 10_state.md R22 to R39). -/
def writeWord (s : Machine.State) (i : BitVec 6) (w : Word) : Machine.State :=
  match i.toNat with
  | 0 => accept s w
  | 1 =>
    { s with
      done := if w.getLsbD 1 then false else s.done
      err := if w.getLsbD 2 then false else s.err
      ecode := if w.getLsbD 2 then 0 else s.ecode
      ign := if w.getLsbD 3 then false else s.ign }
  | 2 => { s with ie := w.getLsbD 0 }
  | 3 => { s with cycles := w }
  | 4 => { s with height := BitVec.ofNat 16 (w.toNat % 2 ^ 16) }
  | 5 => { s with width := BitVec.ofNat 16 (w.toNat % 2 ^ 16) }
  | 6 =>
    { s with rt := #v[wordByte w 0, wordByte w 1, wordByte w 2, wordByte w 3, s.rt[4], s.rt[5], s.rt[6], s.rt[7]] }
  | 7 =>
    { s with rt := #v[s.rt[0], s.rt[1], s.rt[2], s.rt[3], wordByte w 0, wordByte w 1, wordByte w 2, wordByte w 3] }
  | 8 => { s with operand := w }
  | _ => s

/-- The truth table of 41_rule_evaluator.md R141: bit `4a + 2b + c` of the identifier, but for 165 under CONST_ONE, which is 1. -/
def ruleBit (m : Rule165Mode) (r : Byte) (a b c : Bool) : Bool :=
  if m = .constOne ∧ r.toNat = 165 then true else r.toNat.testBit (4 * a.toNat + 2 * b.toNat + c.toNat)

/-- Bit i of a pixel, 0 outside 0..7: the fixed boundary (00_scope.md R13). -/
def pixelBit (p : Byte) (i : Int) : Bool := if 0 ≤ i ∧ i ≤ 7 then p.toNat.testBit i.toNat else false

/-- Bit i of the next pixel, in LSB-0 numbering: rule slot 7-i on the bits i+1, i and i-1 (00_scope.md R12, R13;
42_automaton_step.md R154). -/
def nextPixelBit (m : Rule165Mode) (rt : Vector Byte 8) (p : Byte) (i : Fin 8) : Bool :=
  ruleBit m rt[7 - i.val] (pixelBit p (i.val + 1)) (pixelBit p i.val) (pixelBit p (i.val - 1))

/-- `step(p, RT)` from its bits, each with its weight. -/
def pixelStep (m : Rule165Mode) (rt : Vector Byte 8) (p : Byte) : Byte :=
  BitVec.ofNat 8 (∑ i : Fin 8, (nextPixelBit m rt p i).toNat * 2 ^ i.val)

/-- `step^n(p)` under the state's table and build mode, n = CYCLES (42_automaton_step.md R157). -/
def pixelRounds (s : Machine.State) (p : Byte) : Byte := (pixelStep s.cfg.rule165 s.rt)^[s.cycles.toNat] p

/-- `x * 187 mod 256` (43_cipher_engine.md R175). -/
def times187 (x : Byte) : Byte := BitVec.ofNat 8 (x.toNat * 187 % 256)

/-- `x * 115 mod 256` (43_cipher_engine.md R176). -/
def times115 (x : Byte) : Byte := BitVec.ofNat 8 (x.toNat * 115 % 256)

/-- N = HEIGHT * WIDTH (10_state.md R41). -/
def gridSize (s : Machine.State) : Nat := s.height.toNat * s.width.toNat

/-- X = OPERAND mod 256, the scalar commands' pixel and EVAL's rule identifier (30_encoding.md R93). -/
def operandByte (s : Machine.State) : Byte := BitVec.ofNat 8 (s.operand.toNat % 256)

/-- One whole-grid round of 43_cipher_engine.md R185: every cell below n from the previous round's grid. -/
def gridRound (m : Rule165Mode) (rt : Vector Byte 8) (n : Nat) (g : Nat → Option Byte) : Nat → Option Byte :=
  fun a => if a < n then (g a).map (pixelStep m rt) else g a

/-- `runCycles(G, RT, c)` of 43_cipher_engine.md R185: c rounds, one after the other. -/
def runCycles (m : Rule165Mode) (rt : Vector Byte 8) (n c : Nat) (g : Nat → Option Byte) : Nat → Option Byte :=
  (gridRound m rt n)^[c] g

/-- A grid command's completion with the pixel function `f`: cells 0..N-1 hold `f` of their own old value, poison staying poison,
and every other cell is as before (43_cipher_engine.md R186, R188). -/
def mapsGrid (s : Machine.State) (f : Byte → Byte) (g : Machine.Memory) : Prop :=
  ∀ a, g.read a = if a < gridSize s then (s.grid.read a).map f else s.grid.read a

/-- The machine's step with the same rule in all eight slots (42_automaton_step.md R155). -/
def uniformStep (m : Rule165Mode) (r : Byte) (p : Byte) : Byte := Machine.automatonStep m (Vector.replicate 8 r) p

/-- The document's reference table [102,102,102,102,51,86,240,153] (10_state.md R32). -/
def referenceTable : Vector Byte 8 := #v[102, 102, 102, 102, 51, 86, 240, 153]

end Sys2Proof.Reference

namespace Sys2Proof.Machine

/-- What holds of every state a run reaches: the capacity is in range; the grid memory is in canonical form and inside the
capacity; ERR = 0 exactly when ECODE = 0, and ECODE is at most 4; and while a command is in flight, CMD holds a legal command that
is not NOP and passes its checks, and no outcome is recorded. -/
structure Consistent (s : State) : Prop where
  /-- 00_scope.md R9 -/
  capacity : s.cfg.valid
  /-- 10_state.md R40: the canonical form of the grid memory -/
  gridSorted : s.grid.wf
  /-- 10_state.md R40: cells 0..P_MAX_PIXELS-1 only -/
  gridInside : ∀ c ∈ s.grid, c.1 < s.cfg.maxPixels
  /-- 10_state.md R27 -/
  errIffCode : s.err = true ↔ s.ecode ≠ 0
  /-- 60_exceptions.md R211: 5..15 are never produced -/
  codeRange : s.ecode.toNat ≤ 4
  /-- 43_cipher_engine.md R171: only a command that passes every check goes in flight, with DONE, ERR and ECODE cleared -/
  inFlight : s.busy = true → s.done = false ∧ s.err = false ∧ s.cmd ≠ 0 ∧ Reference.check s s.cmd = 0

/-- The engine's turn has come: no event is left, the event is the engine's, or a grid transaction waits for it (20_memory.md R66;
43_cipher_engine.md R173; entries 18 and 5). -/
def State.engineIsNext (s : State) : Bool :=
  match s.schedule with
  | [] | .engine :: _ | .gridRead _ :: _ | .gridWrite _ _ :: _ => true
  | _ => false

/-- No reset and no loss of power among the events to come. -/
def State.undisturbed (s : State) : Prop := .reset ∉ s.schedule ∧ .powerCycle ∉ s.schedule

end Sys2Proof.Machine
end

