-- ==== Sys2Proof/Certificates/Slice0/Obligations.lean ====
section
/-! DEFINITION. The statements for the provers, from the numbered rules of spec/. The right-hand sides are written with
`Sys2Proof.Reference` (the spec's pseudo-code and tables over numbers), not with the model's own operations. A statement about `step`
reads the next host transaction or event at the head of the schedule (entry 3) and what a read returned in the response (entry 6); a
statement about `exec` names a command's accept by BUSY = 0 and its completion by BUSY = 1 (entry 7). -/

open Sys2Proof Sys2Proof.Machine Sys2Proof.Reference

/-! ### The command word -/

/-- 30_encoding.md R91, R92: the eleven words of the opcode map, and some illegal ones. -/
def Obligations.DecodeReadsOpcodeMapWords : Prop :=
  decode 0x00000000 = .ok .nop ∧ decode 0x00000001 = .ok .eval ∧ decode 0x00000002 = .ok .step ∧
  decode 0x00000003 = .ok .iter ∧ decode 0x00000004 = .ok .mask ∧ decode 0x00000005 = .ok .unmask ∧
  decode 0x00000006 = .ok .encpix ∧ decode 0x00000007 = .ok .decpix ∧ decode 0x00000008 = .ok .run ∧
  decode 0x00000009 = .ok .encrypt ∧ decode 0x0000000A = .ok .decrypt ∧
  decode 0x0000000B = .error .reservedOp ∧ decode 0x0000000F = .error .reservedOp ∧
  decode 0x00000010 = .error .reservedBits ∧ decode 0x80000009 = .error .reservedBits

/-- 30_encoding.md R91, R92: decode of encode is the command, and a legal word is the encoding of the command it decodes to. -/
def Obligations.DecodeAndEncodeAgree : Prop :=
  (∀ i : Instr, i.wellFormed = true → decode (encode i) = .ok i) ∧
  (∀ (w : Word) (i : Instr), decode w = .ok i → w = encode i)

/-- 30_encoding.md R92: the decoder over all words, and what an ILLEGAL word does. -/
def Obligations.DecodeTotalIllegalWordCompletesAtOnce : Prop :=
  (∀ w : Word,
    (w.toNat / 16 ≠ 0 → decode w = .error .reservedBits) ∧
    (w.toNat / 16 = 0 → w.toNat % 16 ≤ 0xA → ∃ i, decode w = .ok i ∧ encode i = w) ∧
    (w.toNat / 16 = 0 → 0xA < w.toNat % 16 → decode w = .error .reservedOp)) ∧
  (∀ (s : State) (w : Word) (e : IllegalWord) (rest : List Event),
    s.busy = false → s.schedule = .regWrite 0 w :: rest → decode w = .error e →
    step s = .next (inError (taken s rest) w 1))

/-! ### A step runs the decoded command -/

/-- 43_cipher_engine.md R171, R172, 20_memory.md R66: where a step runs a command, it is `exec` of the decoded one: of the word
written to CMD while BUSY = 0, and of the word held in CMD at the engine's turn. The model's choices: that an empty schedule and a
held grid transaction give the engine its turn (entries 18 and 5), that exec has two phases (entry 7), and withFetchWord (entry 13). -/
def Obligations.StepRunsDecodedCommand : Prop :=
  ∀ (s : State) (i : Instr) (rest : List Event),
    (∀ w, s.busy = false → s.schedule = .regWrite 0 w :: rest → decode w = .ok i → step s = exec i (taken s rest)) ∧
    (s.busy = true → decode s.cmd = .ok i →
      (s.schedule = .engine :: rest → step s = exec i (taken s rest)) ∧
      (s.schedule = [] → step s = exec i (taken s [])) ∧
      (∀ a, s.schedule = .gridRead a :: rest → step s = exec i (taken s (.gridRead a :: rest))) ∧
      (∀ a v, s.schedule = .gridWrite a v :: rest → step s = exec i (taken s (.gridWrite a v :: rest)))) ∧
    step (s.withFetchWord 32 (encode i).toNat) = exec i { taken s s.schedule with busy := false }

/-! ### BitCodec and RuleEvaluator -/

/-- 40_bitcodec.md R120, R121: position k is bit 7-k, and the byte is the weighted sum of its positions. -/
def Obligations.BitCodecDefinitions : Prop :=
  (∀ (v : Byte) (k : Fin 8), (encodeBits v)[k] = v.getLsbD (7 - k)) ∧
  (∀ bv : BitVector, (decodeBits bv).toNat = ∑ k : Fin 8, bv[k].toNat * 2 ^ (7 - k.val))

/-- 40_bitcodec.md R122: the round trip, and its converse, which the spec marks as its own inference from R120 and R121. -/
def Obligations.BitCodecRoundTrip : Prop :=
  (∀ v : Byte, decodeBits (encodeBits v) = v) ∧
  (∀ bv : BitVector, encodeBits (decodeBits bv) = bv)

/-- 41_rule_evaluator.md R130. -/
def Obligations.SupportedExactlyNineIdentifiers : Prop :=
  ∀ r : Byte, supported r = true ↔ r.toNat ∈ [51, 85, 86, 102, 105, 150, 153, 165, 240]

/-- 41_rule_evaluator.md R132 to R138 and R140: each rule's expression, in both build modes. -/
def Obligations.RuleExpressions : Prop :=
  ∀ (m : Rule165Mode) (a b c : Bool),
    evaluate m 51 a b c = !b ∧
    evaluate m 85 a b c = !c ∧
    evaluate m 86 a b c = ((a && !c) || (b && !c) || (c && !a && !b)) ∧
    (evaluate m 102 a b c = ((b && !c) || (c && !b)) ∧ evaluate m 102 a b c = (b ^^ c)) ∧
    evaluate m 105 a b c = ((a && b && !c) || (a && c && !b) || (b && c && !a) || (!a && !b && !c)) ∧
    evaluate m 150 a b c = ((a && b && c) || (a && !b && !c) || (b && !a && !c) || (c && !a && !b)) ∧
    (evaluate m 153 a b c = ((b && c) || (!b && !c)) ∧ evaluate m 153 a b c = !(b ^^ c)) ∧
    evaluate m 240 a b c = a

/-- The closed forms of rules 86, 105 and 150, which 41_rule_evaluator.md R134, R136 and R137 mark as inferences of the spec ("by case
analysis"): 105 is 1 exactly when an even number of the cells are 1, and 150 when an odd number are. -/
def Obligations.RuleClosedForms : Prop :=
  ∀ (m : Rule165Mode) (a b c : Bool),
    evaluate m 86 a b c = ((a || b) ^^ c) ∧
    evaluate m 105 a b c = !(a ^^ b ^^ c) ∧ (evaluate m 105 a b c = true ↔ (a.toNat + b.toNat + c.toNat) % 2 = 0) ∧
    evaluate m 150 a b c = (a ^^ b ^^ c) ∧ (evaluate m 150 a b c = true ↔ (a.toNat + b.toNat + c.toNat) % 2 = 1)

/-- 41_rule_evaluator.md R139: rule 165 in both build modes. -/
def Obligations.Rule165FollowsBuildMode : Prop :=
  ∀ a b c : Bool,
    evaluate .xnorAc 165 a b c = ((a && c) || (!a && !c)) ∧ evaluate .xnorAc 165 a b c = !(a ^^ c) ∧
    evaluate .constOne 165 a b c = true

/-- A supported rule's output is bit 4a+2b+c of its identifier, but for 165 under CONST_ONE: the inference the spec draws in
41_rule_evaluator.md R141 and R142 ("Identifier equals truth table"). -/
def Obligations.EvaluateSelectsIdentifierBit : Prop :=
  ∀ (m : Rule165Mode) (r : Byte) (a b c : Bool), supportedId r → evaluate m r a b c = ruleBit m r a b c

/-! ### AutomatonStep -/

/-- 42_automaton_step.md R150: on a supported table the model's step is the reference step, which reads the rules off the truth table
that the spec infers in 41_rule_evaluator.md R141. -/
def Obligations.StepEqualsReferenceStep : Prop :=
  ∀ (m : Rule165Mode) (rt : Vector Byte 8) (p : Byte), supportedTable rt → automatonStep m rt p = pixelStep m rt p

/-- The bitwise form of the step, which 42_automaton_step.md R154 infers from R150. -/
def Obligations.StepIsBitwiseForm : Prop :=
  ∀ (m : Rule165Mode) (rt : Vector Byte 8) (p : Byte),
    (∀ i : Fin 8, (automatonStep m rt p).getLsbD i =
      evaluate m rt[7 - i.val] ((p >>> 1).getLsbD i) (p.getLsbD i) ((p <<< 1).getLsbD i)) ∧
    (p >>> 1).getLsbD 7 = false ∧ (p <<< 1).getLsbD 0 = false

/-- 42_automaton_step.md R152: position 0 takes a = 0 and position 7 takes c = 0, whatever the pixel holds. -/
def Obligations.FixedBoundaryAtBothEnds : Prop :=
  ∀ (m : Rule165Mode) (rt : Vector Byte 8) (p : Byte),
    (automatonStep m rt p).getLsbD 7 = evaluate m rt[0] false (p.getLsbD 7) (p.getLsbD 6) ∧
    (automatonStep m rt p).getLsbD 0 = evaluate m rt[7] (p.getLsbD 1) (p.getLsbD 0) false

/-- The closed forms of the nine uniform tables, and which of them are injective: inferences of the spec, 42_automaton_step.md R155. -/
def Obligations.UniformTableClosedForms : Prop :=
  ∀ m : Rule165Mode,
    (∀ p : Byte,
      uniformStep m 51 p = ~~~p ∧ uniformStep m 85 p = ~~~(p <<< 1) ∧
      uniformStep m 86 p = ((p >>> 1) ||| p) ^^^ (p <<< 1) ∧ uniformStep m 102 p = p ^^^ (p <<< 1) ∧
      uniformStep m 105 p = ~~~((p >>> 1) ^^^ p ^^^ (p <<< 1)) ∧
      uniformStep m 150 p = (p >>> 1) ^^^ p ^^^ (p <<< 1) ∧ uniformStep m 153 p = ~~~(p ^^^ (p <<< 1)) ∧
      uniformStep .xnorAc 165 p = ~~~((p >>> 1) ^^^ (p <<< 1)) ∧ uniformStep m 240 p = p >>> 1) ∧
    Function.Injective (uniformStep m 51) ∧ Function.Injective (uniformStep m 102) ∧
    Function.Injective (uniformStep m 153) ∧ Function.Injective (uniformStep .xnorAc 165) ∧
    ¬ Function.Injective (uniformStep m 85) ∧ ¬ Function.Injective (uniformStep m 86) ∧
    ¬ Function.Injective (uniformStep m 105) ∧ ¬ Function.Injective (uniformStep m 150) ∧
    ¬ Function.Injective (uniformStep m 240)

/-- The reference table's step bit by bit, a bijection each of whose orbits has length exactly 8: inferences of the spec,
42_automaton_step.md R156. -/
def Obligations.ReferenceTableOrbitsHaveLengthEight : Prop :=
  ∀ (m : Rule165Mode) (f : Byte → Byte), f = automatonStep m referenceTable →
    (∀ p : Byte,
      (f p).getLsbD 7 = (p.getLsbD 7 ^^ p.getLsbD 6) ∧ (f p).getLsbD 6 = (p.getLsbD 6 ^^ p.getLsbD 5) ∧
      (f p).getLsbD 5 = (p.getLsbD 5 ^^ p.getLsbD 4) ∧ (f p).getLsbD 4 = (p.getLsbD 4 ^^ p.getLsbD 3) ∧
      (f p).getLsbD 3 = !(p.getLsbD 3) ∧ (f p).getLsbD 2 = ((p.getLsbD 3 || p.getLsbD 2) ^^ p.getLsbD 1) ∧
      (f p).getLsbD 1 = p.getLsbD 2 ∧ (f p).getLsbD 0 = !(p.getLsbD 0)) ∧
    Function.Bijective f ∧
    (∀ p : Byte, f^[8] p = p) ∧
    (∀ (p : Byte) (n : Nat), 1 ≤ n → n ≤ 7 → f^[n] p ≠ p)

/-- 42_automaton_step.md R157. -/
def Obligations.IterComposesSteps : Prop :=
  ∀ (m : Rule165Mode) (rt : Vector Byte 8) (n : Nat) (p : Byte), iterPixel m rt n p = (automatonStep m rt)^[n] p

/-- 43_cipher_engine.md R175, R176, and the inverse pair that R181 infers from them. -/
def Obligations.MaskAndUnmaskAreInverse : Prop :=
  ∀ x : Byte,
    (maskByte x).toNat = x.toNat * 187 % 256 ∧ (unmaskByte x).toNat = x.toNat * 115 % 256 ∧
    unmaskByte (maskByte x) = x ∧ maskByte (unmaskByte x) = x

/-! ### The commands: accept, failed accept, completion -/

/-- 43_cipher_engine.md R170. -/
def Obligations.NopCompletesAtAccept : Prop :=
  (∀ s : State, s.busy = false → exec .nop s = .next { s with cmd := 0, done := true, err := false, ecode := 0 }) ∧
  (∀ (s : State) (rest : List Event), s.busy = true → s.schedule = .regWrite 0 0 :: rest →
    step s = .next { taken s rest with ign := true }) ∧
  decode 0x00000010 ≠ .ok .nop

/-- 41_rule_evaluator.md R145. -/
def Obligations.EvalCompletes : Prop :=
  ∀ s : State,
    (s.busy = true → supportedId (operandByte s) →
      exec .eval s = .next (completed { s with
        result := BitVec.ofNat 32 (ruleBit s.cfg.rule165 (operandByte s)
          (s.operand.getLsbD 10) (s.operand.getLsbD 9) (s.operand.getLsbD 8)).toNat })) ∧
    (s.busy = false → supportedId (operandByte s) → exec .eval s = .next (inFlight s 0x00000001)) ∧
    (s.busy = false → ¬ supportedId (operandByte s) → exec .eval s = .next (inError s 0x00000001 2))

/-- 42_automaton_step.md R160. -/
def Obligations.StepCommandCompletes : Prop :=
  ∀ s : State,
    (s.busy = true → supportedTable s.rt →
      exec .step s = .next (completed { s with
        result := BitVec.ofNat 32 (pixelStep s.cfg.rule165 s.rt (operandByte s)).toNat })) ∧
    (s.busy = false → supportedTable s.rt → exec .step s = .next (inFlight s 0x00000002)) ∧
    (s.busy = false → ¬ supportedTable s.rt → exec .step s = .next (inError s 0x00000002 2))

/-- 42_automaton_step.md R161. -/
def Obligations.IterCommandCompletes : Prop :=
  ∀ s : State,
    (s.busy = true → supportedTable s.rt →
      exec .iter s = .next (completed { s with result := BitVec.ofNat 32 (pixelRounds s (operandByte s)).toNat })) ∧
    (s.busy = false → supportedTable s.rt → s.cycles ≠ 0 → exec .iter s = .next (inFlight s 0x00000003)) ∧
    (s.busy = false → ¬ supportedTable s.rt → exec .iter s = .next (inError s 0x00000003 2)) ∧
    (s.busy = false → supportedTable s.rt → s.cycles = 0 → exec .iter s = .next (inError s 0x00000003 3))

/-- 43_cipher_engine.md R177: MASK has no error path; its fixed points and the parity it keeps. -/
def Obligations.MaskCommandCompletes : Prop :=
  (∀ s : State,
    (s.busy = true →
      exec .mask s = .next (completed { s with result := BitVec.ofNat 32 (s.operand.toNat % 256 * 187 % 256) })) ∧
    (s.busy = false → exec .mask s = .next (inFlight s 0x00000004))) ∧
  (∀ x : Byte, (times187 x).toNat % 2 = x.toNat % 2 ∧ (times187 x = x ↔ x = 0 ∨ x = 128))

/-- 43_cipher_engine.md R178: UNMASK has no error path, and undoes MASK. -/
def Obligations.UnmaskCommandCompletes : Prop :=
  (∀ s : State,
    (s.busy = true →
      exec .unmask s = .next (completed { s with result := BitVec.ofNat 32 (s.operand.toNat % 256 * 115 % 256) })) ∧
    (s.busy = false → exec .unmask s = .next (inFlight s 0x00000005))) ∧
  (∀ x : Byte, times115 (times187 x) = x)

/-- 43_cipher_engine.md R179, with its corner case: ENCPIX gives what ENCRYPT leaves in a 1x1 grid that holds X. -/
def Obligations.EncpixCommandCompletes : Prop :=
  ∀ s : State,
    (s.busy = true → supportedTable s.rt →
      exec .encpix s = .next (completed { s with
        result := BitVec.ofNat 32 (times187 (pixelRounds s (operandByte s))).toNat })) ∧
    (s.busy = false → supportedTable s.rt → s.cycles ≠ 0 → exec .encpix s = .next (inFlight s 0x00000006)) ∧
    (s.busy = false → ¬ supportedTable s.rt → exec .encpix s = .next (inError s 0x00000006 2)) ∧
    (s.busy = false → supportedTable s.rt → s.cycles = 0 → exec .encpix s = .next (inError s 0x00000006 3)) ∧
    (s.busy = true → ∃ t u, exec .encpix s = .next t ∧
      exec .encrypt { s with height := 1, width := 1, grid := [(0, operandByte s)] } = .next u ∧
      (u.grid.read 0).map BitVec.toNat = some t.result.toNat)

/-- 43_cipher_engine.md R180. -/
def Obligations.DecpixCommandCompletes : Prop :=
  ∀ s : State,
    (s.busy = true → supportedTable s.rt →
      exec .decpix s = .next (completed { s with
        result := BitVec.ofNat 32 (pixelRounds s (times115 (operandByte s))).toNat })) ∧
    (s.busy = false → supportedTable s.rt → s.cycles ≠ 0 → exec .decpix s = .next (inFlight s 0x00000007)) ∧
    (s.busy = false → ¬ supportedTable s.rt → exec .decpix s = .next (inError s 0x00000007 2)) ∧
    (s.busy = false → supportedTable s.rt → s.cycles = 0 → exec .decpix s = .next (inError s 0x00000007 3))

/-- 43_cipher_engine.md R188. -/
def Obligations.RunCommandCompletes : Prop :=
  ∀ s : State,
    (s.busy = true → supportedTable s.rt →
      ∃ g, exec .run s = .next (completed { s with grid := g }) ∧ mapsGrid s (pixelRounds s) g) ∧
    (s.busy = false → supportedTable s.rt → s.cycles ≠ 0 → gridSize s ≤ s.cfg.maxPixels →
      exec .run s = .next (inFlight s 0x00000008)) ∧
    (s.busy = false → ¬ supportedTable s.rt → exec .run s = .next (inError s 0x00000008 2)) ∧
    (s.busy = false → supportedTable s.rt → s.cycles = 0 → exec .run s = .next (inError s 0x00000008 3)) ∧
    (s.busy = false → supportedTable s.rt → s.cycles ≠ 0 → s.cfg.maxPixels < gridSize s →
      exec .run s = .next (inError s 0x00000008 4))

/-- 43_cipher_engine.md R189. -/
def Obligations.EncryptCommandCompletes : Prop :=
  ∀ s : State,
    (s.busy = true → supportedTable s.rt →
      ∃ g, exec .encrypt s = .next (completed { s with grid := g }) ∧
        mapsGrid s (fun p => times187 (pixelRounds s p)) g) ∧
    (s.busy = false → supportedTable s.rt → s.cycles ≠ 0 → gridSize s ≤ s.cfg.maxPixels →
      exec .encrypt s = .next (inFlight s 0x00000009)) ∧
    (s.busy = false → ¬ supportedTable s.rt → exec .encrypt s = .next (inError s 0x00000009 2)) ∧
    (s.busy = false → supportedTable s.rt → s.cycles = 0 → exec .encrypt s = .next (inError s 0x00000009 3)) ∧
    (s.busy = false → supportedTable s.rt → s.cycles ≠ 0 → s.cfg.maxPixels < gridSize s →
      exec .encrypt s = .next (inError s 0x00000009 4))

/-- 43_cipher_engine.md R190. -/
def Obligations.DecryptCommandCompletes : Prop :=
  ∀ s : State,
    (s.busy = true → supportedTable s.rt →
      ∃ g, exec .decrypt s = .next (completed { s with grid := g }) ∧
        mapsGrid s (fun p => pixelRounds s (times115 p)) g) ∧
    (s.busy = false → supportedTable s.rt → s.cycles ≠ 0 → gridSize s ≤ s.cfg.maxPixels →
      exec .decrypt s = .next (inFlight s 0x0000000A)) ∧
    (s.busy = false → ¬ supportedTable s.rt → exec .decrypt s = .next (inError s 0x0000000A 2)) ∧
    (s.busy = false → supportedTable s.rt → s.cycles = 0 → exec .decrypt s = .next (inError s 0x0000000A 3)) ∧
    (s.busy = false → supportedTable s.rt → s.cycles ≠ 0 → s.cfg.maxPixels < gridSize s →
      exec .decrypt s = .next (inError s 0x0000000A 4))

/-! ### Accept and errors -/

/-- 43_cipher_engine.md R171 with 60_exceptions.md R212: every word written to CMD while BUSY = 0, in every state. -/
def Obligations.AcceptFollowsTheCheckFunction : Prop :=
  ∀ (s : State) (w : Word) (rest : List Event),
    s.busy = false → s.schedule = .regWrite 0 w :: rest → step s = .next (accept (taken s rest) w)

/-- 60_exceptions.md R213. -/
def Obligations.FailedAcceptIsPrecise : Prop :=
  ∀ (s : State) (w : Word) (rest : List Event),
    s.busy = false → s.schedule = .regWrite 0 w :: rest → check s w ≠ 0 →
    step s = .next { taken s rest with cmd := w, done := true, err := true, ecode := check s w }

/-- What each command does straight after reset, on every build: the spec's inference, 70_reset_and_hazards.md R245. -/
def Obligations.CommandsStraightAfterReset : Prop :=
  ∀ (c : Config) (s : State), s = State.powerOn c →
    exec .nop s = .next { s with done := true } ∧
    (exec .mask s = .next (inFlight s 4) ∧ exec .mask (inFlight s 4) = .next { s with cmd := 4, done := true }) ∧
    (exec .unmask s = .next (inFlight s 5) ∧ exec .unmask (inFlight s 5) = .next { s with cmd := 5, done := true }) ∧
    exec .eval s = .next (inError s 1 2) ∧ exec .step s = .next (inError s 2 2) ∧ exec .iter s = .next (inError s 3 2) ∧
    exec .encpix s = .next (inError s 6 2) ∧ exec .decpix s = .next (inError s 7 2) ∧ exec .run s = .next (inError s 8 2) ∧
    exec .encrypt s = .next (inError s 9 2) ∧ exec .decrypt s = .next (inError s 10 2)

/-! ### The register port -/

/-- 20_memory.md R62. -/
def Obligations.RegReadReturnsFieldsWithoutSideEffect : Prop :=
  ∀ (s : State) (i : BitVec 6) (rest : List Event), s.schedule = .regRead i :: rest →
    step s = .next { s with schedule := rest, response := .reg (readWord s i) }

/-- 20_memory.md R63. -/
def Obligations.RegWriteHonouredWhenIdle : Prop :=
  ∀ (s : State) (i : BitVec 6) (w : Word) (rest : List Event), s.busy = false → s.schedule = .regWrite i w :: rest →
    step s = .next (writeWord (taken s rest) i w)

/-- 20_memory.md R64: a write while BUSY = 1; and what R64 infers, that a command in flight keeps its configuration. -/
def Obligations.BusyWriteProtection : Prop :=
  (∀ (s : State) (i : BitVec 6) (w : Word) (rest : List Event), s.busy = true → s.schedule = .regWrite i w :: rest →
    (i.toNat ∈ [0, 3, 4, 5, 6, 7, 8] → step s = .next { taken s rest with ign := true }) ∧
    (i.toNat ∈ [1, 2] → step s = .next (writeWord (taken s rest) i w)) ∧
    (9 ≤ i.toNat → step s = .next (taken s rest))) ∧
  (∀ s t : State, s.busy = true → step s = .next t → t.busy = true →
    t.cmd = s.cmd ∧ t.cycles = s.cycles ∧ t.height = s.height ∧ t.width = s.width ∧ t.rt = s.rt ∧
    t.operand = s.operand ∧ t.grid = s.grid)

/-- 10_state.md R31, R32: the packing of the rule table. -/
def Obligations.RuleTablePacking : Prop :=
  (∀ (s : State) (w : Word) (k : Fin 4),
    (s.storeReg .rules0 w).rt[k.val] = wordByte w k ∧ (s.storeReg .rules0 w).rt[k.val + 4] = s.rt[k.val + 4] ∧
    (s.storeReg .rules1 w).rt[k.val + 4] = wordByte w k ∧ (s.storeReg .rules1 w).rt[k.val] = s.rt[k.val]) ∧
  (∀ (s : State) (w : Word), (s.storeReg .rules0 w).readReg .rules0 = w ∧ (s.storeReg .rules1 w).readReg .rules1 = w) ∧
  (∀ s : State, ((s.storeReg .rules0 0x66666666).storeReg .rules1 0x99F05633).rt = referenceTable)

/-- 10_state.md R33, R34: MAXPIX and FEATURES read the build's parameters, and no step changes these. -/
def Obligations.ParametersNeverChange : Prop :=
  (∀ s t : State, step s = .next t → t.cfg = s.cfg) ∧
  (∀ s : State, s.cfg.valid →
    (s.readReg .maxpix).toNat = s.cfg.maxPixels ∧
    (s.cfg.rule165 = .xnorAc → s.readReg .features = 0) ∧ (s.cfg.rule165 = .constOne → s.readReg .features = 1) ∧
    ∀ w, s.storeReg .maxpix w = s ∧ s.storeReg .features w = s)

/-! ### The grid port -/

/-- 20_memory.md R66: a grid transaction holds while BUSY = 1, and the port is ready after the completion or a reset. That the step of a
held transaction is the engine's completion, with the transaction left at the head of the schedule, is the model's choice (entry 5,
DEDUCED from R66 and R173). -/
def Obligations.GridPortHoldsWhileBusy : Prop :=
  (∀ (s : State) (e : Event) (rest : List Event), Consistent s → s.busy = true →
    (∃ a, e = .gridRead a) ∨ (∃ a v, e = .gridWrite a v) → s.schedule = e :: rest →
    s.gridReady = false ∧ step s = step { s with schedule := .engine :: e :: rest } ∧
    ∃ t, step s = .next t ∧ t.schedule = e :: rest ∧ t.gridReady = true) ∧
  (∀ (s : State) (rest : List Event), s.schedule = .reset :: rest → ∃ t, step s = .next t ∧ t.gridReady = true)

/-- 20_memory.md R65, 10_state.md R40: a grid write sets its cell and no other, and a grid read returns the cell's value. -/
def Obligations.GridWriteAndRead : Prop :=
  ∀ (s : State) (a : Nat) (v : Byte) (rest : List Event), s.busy = false → a < s.cfg.maxPixels →
    (s.schedule = .gridWrite a v :: rest → ∃ g, step s = .next { taken s rest with grid := g } ∧
      g.read a = some v ∧ ∀ x, x ≠ a → g.read x = s.grid.read x) ∧
    (s.schedule = .gridRead a :: rest → s.grid.read a = some v →
      step s = .next { s with schedule := rest, response := .grid v })

/-- 20_memory.md R67: the addresses of the port that hold no cell. -/
def Obligations.OutOfRangeGridAddressReadsZero : Prop :=
  ∀ (s : State) (a : Nat) (v : Byte) (rest : List Event), s.busy = false →
    s.cfg.maxPixels ≤ a → a < 2 ^ max 1 (Nat.clog 2 s.cfg.maxPixels) →
    (s.schedule = .gridRead a :: rest → step s = .next { s with schedule := rest, response := .grid 0 }) ∧
    (s.schedule = .gridWrite a v :: rest → step s = .next (taken s rest))

/-- 20_memory.md R68: a host read of a poison cell is the model fault POISON_READ. -/
def Obligations.PoisonReadIsAFault : Prop :=
  ∀ (s : State) (a : Nat) (rest : List Event), s.busy = false → a < s.cfg.maxPixels → s.grid.read a = none →
    s.schedule = .gridRead a :: rest → step s = .fault (.poisonRead a)

/-! ### Reset and the interrupt -/

/-- 70_reset_and_hazards.md R241, R242, R243: the reset event in every state. -/
def Obligations.ResetEventClearsRegistersAndKeepsGrid : Prop :=
  ∀ (s : State) (rest : List Event), s.schedule = .reset :: rest → ∃ t,
    step s = .next t ∧ t.cfg = s.cfg ∧ t.cmd = 0 ∧ t.busy = false ∧ t.done = false ∧ t.err = false ∧ t.ign = false ∧
    t.ecode = 0 ∧ t.ie = false ∧ t.cycles = 0 ∧ t.height = 0 ∧ t.width = 0 ∧ (∀ k : Fin 8, t.rt[k] = 0) ∧
    t.operand = 0 ∧ t.result = 0 ∧ t.irq = false ∧ t.schedule = rest ∧
    (s.cfg.valid → (t.readReg .maxpix).toNat = s.cfg.maxPixels) ∧
    t.readReg .features = (if s.cfg.rule165 = .constOne then 1 else 0) ∧
    ∀ a, t.grid.read a =
      if s.busy = true ∧ s.cmd.toNat ∈ [8, 9, 10] ∧ a < gridSize s then none else s.grid.read a

/-- 70_reset_and_hazards.md R241, R243, R244; 10_state.md R40: the state after power-on. 60_exceptions.md R231 says of a loss of power only
that every cell becomes poison; that the power-cycle event also resets every register is the model's choice (entry 15, DEDUCED). -/
def Obligations.PowerOnStateIsIdleAndPoison : Prop :=
  (∀ i : BitVec 6, i.toNat ∉ [10, 11] → readWord State.reset i = 0) ∧
  State.reset.irq = false ∧ State.reset.busy = false ∧ (∀ a, State.reset.grid.read a = none) ∧
  (∀ (s : State) (rest : List Event), s.schedule = .powerCycle :: rest →
    step s = .next { State.powerOn s.cfg with schedule := rest })

/-- 60_exceptions.md R220: what asserts and deasserts irq, for every word written to IRQ_EN (bit 0 is IE, 10_state.md R29) and to STATUS
(bit 1 clears DONE, R24). That the completion comes also at an empty schedule and at a held grid transaction is the model's choice
(entries 18 and 5). -/
def Obligations.InterruptFollowsEnableAndDone : Prop :=
  ∀ (s : State) (rest : List Event),
    s.irq = (s.ie && s.done) ∧
    (∀ w, s.schedule = .regWrite 2 w :: rest → ∃ t, step s = .next t ∧ t.irq = (w.getLsbD 0 && s.done)) ∧
    (∀ w, s.schedule = .regWrite 1 w :: rest → ∃ t, step s = .next t ∧
      t.irq = (s.ie && s.done && !w.getLsbD 1) ∧ t.ie = s.ie) ∧
    (∀ w, s.busy = false → s.schedule = .regWrite 0 w :: rest → ∃ t, step s = .next t ∧
      t.irq = (s.ie && (w == 0 || check s w != 0))) ∧
    (∀ t, s.busy = true → s.engineIsNext = true → step s = .next t → t.irq = s.ie) ∧
    (s.schedule = .reset :: rest → ∃ t, step s = .next t ∧ t.irq = false)

/-! ### The whole machine -/

/-- The invariant holds at reset; P_MAX_PIXELS and P_RULE165_MODE are any legal values (entries 1 and 2). -/
def Obligations.ResetStateIsConsistent : Prop := Consistent State.reset

/-- 00_scope.md R9; 10_state.md R25, R27, R40; 60_exceptions.md R211; 43_cipher_engine.md R171: every step keeps the invariant. -/
def Obligations.StepKeepsConsistency : Prop := ∀ s t : State, Consistent s → step s = .next t → Consistent t

/-- 43_cipher_engine.md R173: a command in flight completes, within one step more than there are events to come, unless a reset or
a loss of power is among them. That the engine's turn comes at the end of the events, and at a held grid transaction, is the model's
choice (entries 18 and 5). -/
def Obligations.EveryCommandInFlightCompletes : Prop :=
  ∀ s : State, Consistent s → s.busy = true → s.undisturbed →
    ∃ k t, 1 ≤ k ∧ k ≤ s.schedule.length + 1 ∧ Host.Core.run Sys2Proof.core k s = .next t ∧
      t.busy = false ∧ t.done = true ∧ t.err = false ∧ t.ecode = 0 ∧ t.cmd = s.cmd

/-- A command that passed its checks completes without an error: the spec's inference, 60_exceptions.md R214. That the step completes it
at an empty schedule and at a held grid transaction is the model's choice (entries 18 and 5). -/
def Obligations.NoErrorArisesAfterAccept : Prop :=
  ∀ s : State, Consistent s → s.busy = true → s.engineIsNext = true →
    ∃ t, step s = .next t ∧ t.busy = false ∧ t.done = true ∧ t.err = false ∧ t.ecode = 0

/-- 60_exceptions.md R210, R215: from a consistent state, an event the ports can carry stops the machine only where the host reads a
poison cell. -/
def Obligations.OnlyAPoisonReadStops : Prop :=
  ∀ s : State, Consistent s → (∀ e rest, s.schedule = e :: rest → e.wellFormed s.cfg = true) →
    (∃ t, step s = .next t) ∨
    (∃ a rest, s.busy = false ∧ s.schedule = .gridRead a :: rest ∧ a < s.cfg.maxPixels ∧ s.grid.read a = none ∧
      step s = .fault (.poisonRead a))

/-- 10_state.md R25: what sets BUSY and what clears it, over every step. That what may clear it includes the model's own turns of the
engine (entries 18 and 5) and the power cycle (entry 15), which R25 does not list, is the model's choice. -/
def Obligations.BusyChangesOnlyByAcceptCompletionOrReset : Prop :=
  ∀ s t : State, step s = .next t →
    (s.busy = false → t.busy = true →
      ∃ w rest, s.schedule = .regWrite 0 w :: rest ∧ check s w = 0 ∧ w ≠ 0 ∧ t.cmd = w) ∧
    (s.busy = true → t.busy = false →
      (s.engineIsNext = true ∧ t.done = true) ∨
      ∃ rest, s.schedule = .reset :: rest ∨ s.schedule = .powerCycle :: rest) ∧
    (∀ w rest, s.busy = false → s.schedule = .regWrite 0 w :: rest → check s w = 0 → w ≠ 0 → t.busy = true) ∧
    (∀ rest, s.busy = true → s.schedule = .engine :: rest → t.busy = false ∧ t.done = true) ∧
    (∀ rest, s.schedule = .reset :: rest → t.busy = false)

/-- 10_state.md R28: what sets IGN and what clears it, over every step, in both directions. That what may clear it
includes the power cycle (entry 15), which R28 does not list, is the model's choice. -/
def Obligations.IgnIsSticky : Prop :=
  ∀ s t : State, step s = .next t →
    (s.ign = false → t.ign = true →
      s.busy = true ∧ ∃ i w rest, s.schedule = .regWrite i w :: rest ∧ i.toNat ∈ [0, 3, 4, 5, 6, 7, 8]) ∧
    (s.ign = true → t.ign = false →
      (∃ w rest, s.schedule = .regWrite 1 w :: rest ∧ w.getLsbD 3 = true) ∨
      ∃ rest, s.schedule = .reset :: rest ∨ s.schedule = .powerCycle :: rest) ∧
    (∀ i w rest, s.busy = true → s.schedule = .regWrite i w :: rest → i.toNat ∈ [0, 3, 4, 5, 6, 7, 8] → t.ign = true) ∧
    (∀ w rest, s.schedule = .regWrite 1 w :: rest → w.getLsbD 3 = true → t.ign = false) ∧
    (∀ rest, s.schedule = .reset :: rest → t.ign = false)

/-- 10_state.md R39: RESULT changes only at a scalar command's completion or at a reset. Among these the statement counts the model's own
turns of the engine (entries 18 and 5) and the power cycle (entry 15). -/
def Obligations.ResultWrittenOnlyByScalarCompletion : Prop :=
  ∀ s t : State, step s = .next t → t.result ≠ s.result →
    (s.busy = true ∧ s.engineIsNext = true ∧ s.cmd.toNat ∈ [1, 2, 3, 4, 5, 6, 7]) ∨
    ∃ rest, s.schedule = .reset :: rest ∨ s.schedule = .powerCycle :: rest

/-- No command changes HEIGHT, WIDTH or a cell at index N or above: the spec's inference, 43_cipher_engine.md R191. -/
def Obligations.CommandsKeepDimensionsAndOutsideCells : Prop :=
  ∀ (i : Instr) (s t : State), exec i s = .next t →
    t.height = s.height ∧ t.width = s.width ∧ ∀ a, gridSize s ≤ a → t.grid.read a = s.grid.read a

/-! ### The cipher -/

/-- 43_cipher_engine.md R185, and the per-pixel form that R186 infers: c whole-grid rounds are c rounds of each pixel, and they are
what RUN leaves. -/
def Obligations.GridRoundsEqualPixelRounds : Prop :=
  (∀ (m : Rule165Mode) (rt : Vector Byte 8) (n c : Nat) (g : Nat → Option Byte) (a : Nat),
    runCycles m rt n c g a = if a < n then (g a).map ((pixelStep m rt)^[c]) else g a) ∧
  (∀ s : State, s.busy = true → supportedTable s.rt → ∃ t, exec .run s = .next t ∧
    ∀ a, t.grid.read a = runCycles s.cfg.rule165 s.rt (gridSize s) s.cycles.toNat s.grid.read a)

/-- The spec's inference, 43_cipher_engine.md R192: the result at a cell depends only on that cell and the configuration, wherever the
cell stands and whatever the other cells and the size of the grid are. -/
def Obligations.CrossPixelIndependence : Prop :=
  ∀ (i : Instr) (s u s' u' : State) (a b : Nat), i ∈ [Instr.run, .encrypt, .decrypt] → s.busy = true → u.busy = true →
    s.cfg.rule165 = u.cfg.rule165 → s.rt = u.rt → s.cycles = u.cycles → a < gridSize s → b < gridSize u →
    s.grid.read a = u.grid.read b → exec i s = .next s' → exec i u = .next u' → s'.grid.read a = u'.grid.read b

/-- The spec's inference, 43_cipher_engine.md R174: the values a command writes depend only on the command, OPERAND, RT, CYCLES,
HEIGHT, WIDTH, the grid cells it reads (0..N-1, for a grid command) and the build mode. -/
def Obligations.WrittenValuesDependOnlyOnInputs : Prop :=
  ∀ (i : Instr) (s u s' u' : State), s.busy = true → u.busy = true → s.cfg.rule165 = u.cfg.rule165 →
    s.operand = u.operand → s.rt = u.rt → s.cycles = u.cycles → s.height = u.height → s.width = u.width →
    exec i s = .next s' → exec i u = .next u' →
    (i ∈ [Instr.eval, .step, .iter, .mask, .unmask, .encpix, .decpix] → s'.result = u'.result) ∧
    (i ∉ [Instr.eval, .step, .iter, .mask, .unmask, .encpix, .decpix] → s'.result = s.result) ∧
    (i ∉ [Instr.run, .encrypt, .decrypt] → ∀ a, s'.grid.read a = s.grid.read a) ∧
    ((∀ a, a < gridSize s → s.grid.read a = u.grid.read a) → ∀ a, a < gridSize s → s'.grid.read a = u'.grid.read a)

/-- The spec's inferences, 43_cipher_engine.md R193 and R194: DECRYPT undoes ENCRYPT on every grid, and ENCRYPT undoes DECRYPT,
exactly when step^(2c) is the identity. -/
def Obligations.RoundTripExactlyWhenStepTwiceCyclesIsIdentity : Prop :=
  ∀ s : State, s.busy = true → supportedTable s.rt → 0 < gridSize s →
    ((∀ g : Memory, ∃ t u, exec .encrypt { s with grid := g } = .next t ∧ exec .decrypt { t with busy := true } = .next u ∧
        ∀ a, u.grid.read a = g.read a) ↔
      ∀ x : Byte, (pixelStep s.cfg.rule165 s.rt)^[2 * s.cycles.toNat] x = x) ∧
    ((∀ g : Memory, ∃ t u, exec .decrypt { s with grid := g } = .next t ∧ exec .encrypt { t with busy := true } = .next u ∧
        ∀ a, u.grid.read a = g.read a) ↔
      ∀ x : Byte, (pixelStep s.cfg.rule165 s.rt)^[2 * s.cycles.toNat] x = x)

/-- The spec's inference, 43_cipher_engine.md R193 and 90_conflicts.md C2: with the reference table the round trip holds exactly when
4 divides CYCLES. -/
def Obligations.ReferenceTableRoundTripsExactlyAtMultiplesOfFour : Prop :=
  ∀ s : State, s.busy = true → s.rt = referenceTable → 0 < gridSize s →
    ((∀ g : Memory, ∃ t u, exec .encrypt { s with grid := g } = .next t ∧ exec .decrypt { t with busy := true } = .next u ∧
        ∀ a, u.grid.read a = g.read a) ↔ s.cycles.toNat % 4 = 0)

/-! ### The idle engine -/

/-- 43_cipher_engine.md R172 enables the engine exactly when BUSY = 1; that an engine event, or a step with no event left, is then a step
that changes no register and no cell is the model's choice (entry 4). -/
def Obligations.IdleEngineTurnChangesNothing : Prop :=
  ∀ s : State, s.busy = false →
    (∀ rest, s.schedule = .engine :: rest → step s = .next (taken s rest)) ∧
    (s.schedule = [] → step s = .next (taken s []))
end

