-- ==== Sys2Proof/Laws/Memory.lean ====
section
/-! SUPPORT. What the grid memory's operations do: what a read gives after each, and that each keeps the canonical form. -/

namespace Sys2Proof.Machine

@[simp] theorem Memory.read_nil (a : Nat) : Memory.read [] a = none := rfl

@[simp] theorem Memory.read_cons (k : Nat) (b : Byte) (m : Memory) (a : Nat) :
    Memory.read ((k, b) :: m) a = if k = a then some b else m.read a := rfl

theorem Memory.read_write (m : Memory) (a x : Nat) (v : Byte) :
    (m.write a v).read x = if a = x then some v else m.read x := by
  induction m with
  | nil => rfl
  | cons c m ih =>
    obtain ⟨k, b⟩ := c
    simp only [Memory.write]
    split
    · rfl
    · split
      · rename_i h
        subst h
        simp only [Memory.read_cons]
        split <;> simp_all
      · simp only [Memory.read_cons, ih]
        split <;> split <;> simp_all

/-- A read after a write to the same cell gives the value written. -/
@[simp] theorem Memory.read_write_same (m : Memory) (a : Nat) (v : Byte) : (m.write a v).read a = some v := by
  simp [Memory.read_write]

/-- A write leaves every other cell alone. -/
theorem Memory.read_write_other (m : Memory) {a x : Nat} (v : Byte) (h : a ≠ x) : (m.write a v).read x = m.read x := by
  simp [Memory.read_write, h]

/-- A mapped cell is the image of its own old value; poison and the cells at n and above are as before. -/
theorem Memory.read_mapBelow (m : Memory) (n : Nat) (f : Byte → Byte) (a : Nat) :
    (m.mapBelow n f).read a = if a < n then (m.read a).map f else m.read a := by
  induction m with
  | nil => simp [Memory.mapBelow]
  | cons c m ih =>
    obtain ⟨k, b⟩ := c
    simp only [Memory.mapBelow, List.map_cons] at ih ⊢
    by_cases hk : k < n
    · simp only [hk, if_true, Memory.read_cons, ih]
      by_cases hka : k = a
      · subst hka
        simp [hk]
      · simp [hka]
    · simp only [hk, if_false, Memory.read_cons, ih]
      by_cases hka : k = a
      · subst hka
        simp [hk]
      · simp [hka]

/-- Cells below n are poison afterwards, the others as before. -/
theorem Memory.read_poisonBelow (m : Memory) (n a : Nat) :
    (m.poisonBelow n).read a = if a < n then none else m.read a := by
  induction m with
  | nil => simp [Memory.poisonBelow]
  | cons c m ih =>
    obtain ⟨k, b⟩ := c
    simp only [Memory.poisonBelow, List.filter_cons] at ih ⊢
    by_cases hk : n ≤ k
    · simp only [hk, decide_true, if_true, Memory.read_cons, ih]
      by_cases hka : k = a
      · subst hka
        simp [Nat.not_lt.mpr hk]
      · simp [hka]
    · simp only [hk, decide_false, Bool.false_eq_true, if_false, Memory.read_cons, ih]
      by_cases hka : k = a
      · subst hka
        simp [Nat.not_le.mp hk]
      · simp [hka]

/-- A listed cell after a write is the written one or an old one. -/
theorem Memory.mem_write {m : Memory} {a : Nat} {v : Byte} {c : Host.Cell} (h : c ∈ m.write a v) : c = (a, v) ∨ c ∈ m := by
  induction m with
  | nil => simpa [Memory.write] using h
  | cons d m ih =>
    obtain ⟨k, b⟩ := d
    simp only [Memory.write] at h
    split at h
    · simpa using h
    · split at h
      · rcases List.mem_cons.mp h with h | h
        · exact .inl h
        · exact .inr (List.mem_cons_of_mem _ h)
      · rcases List.mem_cons.mp h with h | h
        · exact .inr (by simp [h])
        · rcases ih h with h | h
          · exact .inl h
          · exact .inr (List.mem_cons_of_mem _ h)

theorem Memory.write_wf {m : Memory} (h : m.wf) (a : Nat) (v : Byte) : (m.write a v).wf := by
  induction m with
  | nil => simp [Memory.write]
  | cons d m ih =>
    obtain ⟨k, b⟩ := d
    have hk := (List.pairwise_cons.mp h).1
    have hm := (List.pairwise_cons.mp h).2
    simp only [Memory.write]
    split
    · rename_i hak
      refine List.pairwise_cons.mpr ⟨fun c hc => ?_, h⟩
      rcases List.mem_cons.mp hc with rfl | hc
      · exact hak
      · exact hak.trans (hk c hc)
    · split
      · rename_i hak
        subst hak
        exact List.pairwise_cons.mpr ⟨hk, hm⟩
      · refine List.pairwise_cons.mpr ⟨fun c hc => ?_, ih hm⟩
        rcases Memory.mem_write hc with rfl | hc
        · show k < a
          omega
        · exact hk c hc

theorem Memory.mapBelow_wf {m : Memory} (h : m.wf) (n : Nat) (f : Byte → Byte) : (m.mapBelow n f).wf := by
  refine List.pairwise_map.mpr (h.imp fun {c d} hcd => ?_)
  split <;> split <;> exact hcd

theorem Memory.poisonBelow_wf {m : Memory} (h : m.wf) (n : Nat) : (m.poisonBelow n).wf := List.Pairwise.filter _ h

/-- A map of the cells lists no new index. -/
theorem Memory.mem_mapBelow {m : Memory} {n : Nat} {f : Byte → Byte} {c : Host.Cell} (h : c ∈ m.mapBelow n f) :
    ∃ d ∈ m, d.1 = c.1 := by
  obtain ⟨d, hd, rfl⟩ := List.mem_map.mp h
  exact ⟨d, hd, by split <;> rfl⟩

theorem Memory.mem_poisonBelow {m : Memory} {n : Nat} {c : Host.Cell} (h : c ∈ m.poisonBelow n) : c ∈ m :=
  List.mem_of_mem_filter h

/-- The memory after reset lists nothing, so it is in canonical form. -/
theorem reset_grid_wf : State.reset.grid.wf := List.Pairwise.nil

end Sys2Proof.Machine
end

