-- ==== Sys2Proof/Laws/State.lean ====
section
/-! SUPPORT. One lemma per field per state update, so that no proof unfolds a record update. -/

namespace Sys2Proof.Machine

/-! ### `State.respond` -/

section

variable (s : State) (r : Response)

@[simp] theorem State.respond_cfg : (s.respond r).cfg = s.cfg := rfl
@[simp] theorem State.respond_cmd : (s.respond r).cmd = s.cmd := rfl
@[simp] theorem State.respond_busy : (s.respond r).busy = s.busy := rfl
@[simp] theorem State.respond_done : (s.respond r).done = s.done := rfl
@[simp] theorem State.respond_err : (s.respond r).err = s.err := rfl
@[simp] theorem State.respond_ign : (s.respond r).ign = s.ign := rfl
@[simp] theorem State.respond_ecode : (s.respond r).ecode = s.ecode := rfl
@[simp] theorem State.respond_ie : (s.respond r).ie = s.ie := rfl
@[simp] theorem State.respond_cycles : (s.respond r).cycles = s.cycles := rfl
@[simp] theorem State.respond_height : (s.respond r).height = s.height := rfl
@[simp] theorem State.respond_width : (s.respond r).width = s.width := rfl
@[simp] theorem State.respond_rt : (s.respond r).rt = s.rt := rfl
@[simp] theorem State.respond_operand : (s.respond r).operand = s.operand := rfl
@[simp] theorem State.respond_result : (s.respond r).result = s.result := rfl
@[simp] theorem State.respond_grid : (s.respond r).grid = s.grid := rfl
@[simp] theorem State.respond_schedule : (s.respond r).schedule = s.schedule := rfl
@[simp] theorem State.respond_response : (s.respond r).response = r := rfl

end

/-! ### `State.withSchedule` -/

section

variable (s : State) (rest : List Event)

@[simp] theorem State.withSchedule_cfg : (s.withSchedule rest).cfg = s.cfg := rfl
@[simp] theorem State.withSchedule_cmd : (s.withSchedule rest).cmd = s.cmd := rfl
@[simp] theorem State.withSchedule_busy : (s.withSchedule rest).busy = s.busy := rfl
@[simp] theorem State.withSchedule_done : (s.withSchedule rest).done = s.done := rfl
@[simp] theorem State.withSchedule_err : (s.withSchedule rest).err = s.err := rfl
@[simp] theorem State.withSchedule_ign : (s.withSchedule rest).ign = s.ign := rfl
@[simp] theorem State.withSchedule_ecode : (s.withSchedule rest).ecode = s.ecode := rfl
@[simp] theorem State.withSchedule_ie : (s.withSchedule rest).ie = s.ie := rfl
@[simp] theorem State.withSchedule_cycles : (s.withSchedule rest).cycles = s.cycles := rfl
@[simp] theorem State.withSchedule_height : (s.withSchedule rest).height = s.height := rfl
@[simp] theorem State.withSchedule_width : (s.withSchedule rest).width = s.width := rfl
@[simp] theorem State.withSchedule_rt : (s.withSchedule rest).rt = s.rt := rfl
@[simp] theorem State.withSchedule_operand : (s.withSchedule rest).operand = s.operand := rfl
@[simp] theorem State.withSchedule_result : (s.withSchedule rest).result = s.result := rfl
@[simp] theorem State.withSchedule_grid : (s.withSchedule rest).grid = s.grid := rfl
@[simp] theorem State.withSchedule_schedule : (s.withSchedule rest).schedule = rest := rfl
@[simp] theorem State.withSchedule_response : (s.withSchedule rest).response = s.response := rfl

end

/-! ### `State.setGrid` -/

section

variable (s : State) (g : Memory)

@[simp] theorem State.setGrid_cfg : (s.setGrid g).cfg = s.cfg := rfl
@[simp] theorem State.setGrid_cmd : (s.setGrid g).cmd = s.cmd := rfl
@[simp] theorem State.setGrid_busy : (s.setGrid g).busy = s.busy := rfl
@[simp] theorem State.setGrid_done : (s.setGrid g).done = s.done := rfl
@[simp] theorem State.setGrid_err : (s.setGrid g).err = s.err := rfl
@[simp] theorem State.setGrid_ign : (s.setGrid g).ign = s.ign := rfl
@[simp] theorem State.setGrid_ecode : (s.setGrid g).ecode = s.ecode := rfl
@[simp] theorem State.setGrid_ie : (s.setGrid g).ie = s.ie := rfl
@[simp] theorem State.setGrid_cycles : (s.setGrid g).cycles = s.cycles := rfl
@[simp] theorem State.setGrid_height : (s.setGrid g).height = s.height := rfl
@[simp] theorem State.setGrid_width : (s.setGrid g).width = s.width := rfl
@[simp] theorem State.setGrid_rt : (s.setGrid g).rt = s.rt := rfl
@[simp] theorem State.setGrid_operand : (s.setGrid g).operand = s.operand := rfl
@[simp] theorem State.setGrid_result : (s.setGrid g).result = s.result := rfl
@[simp] theorem State.setGrid_grid : (s.setGrid g).grid = g := rfl
@[simp] theorem State.setGrid_schedule : (s.setGrid g).schedule = s.schedule := rfl
@[simp] theorem State.setGrid_response : (s.setGrid g).response = s.response := rfl

end

/-! ### `State.setResult` -/

section

variable (s : State) (v : Word)

@[simp] theorem State.setResult_cfg : (s.setResult v).cfg = s.cfg := rfl
@[simp] theorem State.setResult_cmd : (s.setResult v).cmd = s.cmd := rfl
@[simp] theorem State.setResult_busy : (s.setResult v).busy = s.busy := rfl
@[simp] theorem State.setResult_done : (s.setResult v).done = s.done := rfl
@[simp] theorem State.setResult_err : (s.setResult v).err = s.err := rfl
@[simp] theorem State.setResult_ign : (s.setResult v).ign = s.ign := rfl
@[simp] theorem State.setResult_ecode : (s.setResult v).ecode = s.ecode := rfl
@[simp] theorem State.setResult_ie : (s.setResult v).ie = s.ie := rfl
@[simp] theorem State.setResult_cycles : (s.setResult v).cycles = s.cycles := rfl
@[simp] theorem State.setResult_height : (s.setResult v).height = s.height := rfl
@[simp] theorem State.setResult_width : (s.setResult v).width = s.width := rfl
@[simp] theorem State.setResult_rt : (s.setResult v).rt = s.rt := rfl
@[simp] theorem State.setResult_operand : (s.setResult v).operand = s.operand := rfl
@[simp] theorem State.setResult_result : (s.setResult v).result = v := rfl
@[simp] theorem State.setResult_grid : (s.setResult v).grid = s.grid := rfl
@[simp] theorem State.setResult_schedule : (s.setResult v).schedule = s.schedule := rfl
@[simp] theorem State.setResult_response : (s.setResult v).response = s.response := rfl

end

/-! ### `State.setIgn` -/

section

variable (s : State)

@[simp] theorem State.setIgn_cfg : s.setIgn.cfg = s.cfg := rfl
@[simp] theorem State.setIgn_cmd : s.setIgn.cmd = s.cmd := rfl
@[simp] theorem State.setIgn_busy : s.setIgn.busy = s.busy := rfl
@[simp] theorem State.setIgn_done : s.setIgn.done = s.done := rfl
@[simp] theorem State.setIgn_err : s.setIgn.err = s.err := rfl
@[simp] theorem State.setIgn_ign : s.setIgn.ign = true := rfl
@[simp] theorem State.setIgn_ecode : s.setIgn.ecode = s.ecode := rfl
@[simp] theorem State.setIgn_ie : s.setIgn.ie = s.ie := rfl
@[simp] theorem State.setIgn_cycles : s.setIgn.cycles = s.cycles := rfl
@[simp] theorem State.setIgn_height : s.setIgn.height = s.height := rfl
@[simp] theorem State.setIgn_width : s.setIgn.width = s.width := rfl
@[simp] theorem State.setIgn_rt : s.setIgn.rt = s.rt := rfl
@[simp] theorem State.setIgn_operand : s.setIgn.operand = s.operand := rfl
@[simp] theorem State.setIgn_result : s.setIgn.result = s.result := rfl
@[simp] theorem State.setIgn_grid : s.setIgn.grid = s.grid := rfl
@[simp] theorem State.setIgn_schedule : s.setIgn.schedule = s.schedule := rfl
@[simp] theorem State.setIgn_response : s.setIgn.response = s.response := rfl

end

/-! ### `State.setBusy` -/

section

variable (s : State)

@[simp] theorem State.setBusy_cfg : s.setBusy.cfg = s.cfg := rfl
@[simp] theorem State.setBusy_cmd : s.setBusy.cmd = s.cmd := rfl
@[simp] theorem State.setBusy_busy : s.setBusy.busy = true := rfl
@[simp] theorem State.setBusy_done : s.setBusy.done = s.done := rfl
@[simp] theorem State.setBusy_err : s.setBusy.err = s.err := rfl
@[simp] theorem State.setBusy_ign : s.setBusy.ign = s.ign := rfl
@[simp] theorem State.setBusy_ecode : s.setBusy.ecode = s.ecode := rfl
@[simp] theorem State.setBusy_ie : s.setBusy.ie = s.ie := rfl
@[simp] theorem State.setBusy_cycles : s.setBusy.cycles = s.cycles := rfl
@[simp] theorem State.setBusy_height : s.setBusy.height = s.height := rfl
@[simp] theorem State.setBusy_width : s.setBusy.width = s.width := rfl
@[simp] theorem State.setBusy_rt : s.setBusy.rt = s.rt := rfl
@[simp] theorem State.setBusy_operand : s.setBusy.operand = s.operand := rfl
@[simp] theorem State.setBusy_result : s.setBusy.result = s.result := rfl
@[simp] theorem State.setBusy_grid : s.setBusy.grid = s.grid := rfl
@[simp] theorem State.setBusy_schedule : s.setBusy.schedule = s.schedule := rfl
@[simp] theorem State.setBusy_response : s.setBusy.response = s.response := rfl

end

/-! ### `State.clearOutcome` -/

section

variable (s : State)

@[simp] theorem State.clearOutcome_cfg : s.clearOutcome.cfg = s.cfg := rfl
@[simp] theorem State.clearOutcome_cmd : s.clearOutcome.cmd = s.cmd := rfl
@[simp] theorem State.clearOutcome_busy : s.clearOutcome.busy = s.busy := rfl
@[simp] theorem State.clearOutcome_done : s.clearOutcome.done = false := rfl
@[simp] theorem State.clearOutcome_err : s.clearOutcome.err = false := rfl
@[simp] theorem State.clearOutcome_ign : s.clearOutcome.ign = s.ign := rfl
@[simp] theorem State.clearOutcome_ecode : s.clearOutcome.ecode = 0 := rfl
@[simp] theorem State.clearOutcome_ie : s.clearOutcome.ie = s.ie := rfl
@[simp] theorem State.clearOutcome_cycles : s.clearOutcome.cycles = s.cycles := rfl
@[simp] theorem State.clearOutcome_height : s.clearOutcome.height = s.height := rfl
@[simp] theorem State.clearOutcome_width : s.clearOutcome.width = s.width := rfl
@[simp] theorem State.clearOutcome_rt : s.clearOutcome.rt = s.rt := rfl
@[simp] theorem State.clearOutcome_operand : s.clearOutcome.operand = s.operand := rfl
@[simp] theorem State.clearOutcome_result : s.clearOutcome.result = s.result := rfl
@[simp] theorem State.clearOutcome_grid : s.clearOutcome.grid = s.grid := rfl
@[simp] theorem State.clearOutcome_schedule : s.clearOutcome.schedule = s.schedule := rfl
@[simp] theorem State.clearOutcome_response : s.clearOutcome.response = s.response := rfl

end

/-! ### `State.finish` -/

section

variable (s : State)

@[simp] theorem State.finish_cfg : s.finish.cfg = s.cfg := rfl
@[simp] theorem State.finish_cmd : s.finish.cmd = s.cmd := rfl
@[simp] theorem State.finish_busy : s.finish.busy = false := rfl
@[simp] theorem State.finish_done : s.finish.done = true := rfl
@[simp] theorem State.finish_err : s.finish.err = s.err := rfl
@[simp] theorem State.finish_ign : s.finish.ign = s.ign := rfl
@[simp] theorem State.finish_ecode : s.finish.ecode = s.ecode := rfl
@[simp] theorem State.finish_ie : s.finish.ie = s.ie := rfl
@[simp] theorem State.finish_cycles : s.finish.cycles = s.cycles := rfl
@[simp] theorem State.finish_height : s.finish.height = s.height := rfl
@[simp] theorem State.finish_width : s.finish.width = s.width := rfl
@[simp] theorem State.finish_rt : s.finish.rt = s.rt := rfl
@[simp] theorem State.finish_operand : s.finish.operand = s.operand := rfl
@[simp] theorem State.finish_result : s.finish.result = s.result := rfl
@[simp] theorem State.finish_grid : s.finish.grid = s.grid := rfl
@[simp] theorem State.finish_schedule : s.finish.schedule = s.schedule := rfl
@[simp] theorem State.finish_response : s.finish.response = s.response := rfl

end

/-! ### `State.writeStatus` -/

section

variable (s : State) (w : Word)

@[simp] theorem State.writeStatus_cfg : (s.writeStatus w).cfg = s.cfg := rfl
@[simp] theorem State.writeStatus_cmd : (s.writeStatus w).cmd = s.cmd := rfl
@[simp] theorem State.writeStatus_busy : (s.writeStatus w).busy = s.busy := rfl
@[simp] theorem State.writeStatus_done : (s.writeStatus w).done = (s.done && !w.getLsbD 1) := rfl
@[simp] theorem State.writeStatus_err : (s.writeStatus w).err = (s.err && !w.getLsbD 2) := rfl
@[simp] theorem State.writeStatus_ign : (s.writeStatus w).ign = (s.ign && !w.getLsbD 3) := rfl
@[simp] theorem State.writeStatus_ecode : (s.writeStatus w).ecode = (if w.getLsbD 2 then 0 else s.ecode) := rfl
@[simp] theorem State.writeStatus_ie : (s.writeStatus w).ie = s.ie := rfl
@[simp] theorem State.writeStatus_cycles : (s.writeStatus w).cycles = s.cycles := rfl
@[simp] theorem State.writeStatus_height : (s.writeStatus w).height = s.height := rfl
@[simp] theorem State.writeStatus_width : (s.writeStatus w).width = s.width := rfl
@[simp] theorem State.writeStatus_rt : (s.writeStatus w).rt = s.rt := rfl
@[simp] theorem State.writeStatus_operand : (s.writeStatus w).operand = s.operand := rfl
@[simp] theorem State.writeStatus_result : (s.writeStatus w).result = s.result := rfl
@[simp] theorem State.writeStatus_grid : (s.writeStatus w).grid = s.grid := rfl
@[simp] theorem State.writeStatus_schedule : (s.writeStatus w).schedule = s.schedule := rfl
@[simp] theorem State.writeStatus_response : (s.writeStatus w).response = s.response := rfl

end

/-! ### `State.accept` -/

section

variable (s : State) (w : Word)

@[simp] theorem State.accept_cfg : (s.accept w).cfg = s.cfg := rfl
@[simp] theorem State.accept_cmd : (s.accept w).cmd = w := rfl
@[simp] theorem State.accept_busy : (s.accept w).busy = s.busy := rfl
@[simp] theorem State.accept_done : (s.accept w).done = false := rfl
@[simp] theorem State.accept_err : (s.accept w).err = false := rfl
@[simp] theorem State.accept_ign : (s.accept w).ign = s.ign := rfl
@[simp] theorem State.accept_ecode : (s.accept w).ecode = 0 := rfl
@[simp] theorem State.accept_ie : (s.accept w).ie = s.ie := rfl
@[simp] theorem State.accept_cycles : (s.accept w).cycles = s.cycles := rfl
@[simp] theorem State.accept_height : (s.accept w).height = s.height := rfl
@[simp] theorem State.accept_width : (s.accept w).width = s.width := rfl
@[simp] theorem State.accept_rt : (s.accept w).rt = s.rt := rfl
@[simp] theorem State.accept_operand : (s.accept w).operand = s.operand := rfl
@[simp] theorem State.accept_result : (s.accept w).result = s.result := rfl
@[simp] theorem State.accept_grid : (s.accept w).grid = s.grid := rfl
@[simp] theorem State.accept_schedule : (s.accept w).schedule = s.schedule := rfl
@[simp] theorem State.accept_response : (s.accept w).response = s.response := rfl

end

/-! ### `State.takeError` -/

section

variable (s : State) (e : ErrorCode)

@[simp] theorem State.takeError_cfg : (s.takeError e).cfg = s.cfg := rfl
@[simp] theorem State.takeError_cmd : (s.takeError e).cmd = s.cmd := rfl
@[simp] theorem State.takeError_busy : (s.takeError e).busy = s.busy := rfl
@[simp] theorem State.takeError_done : (s.takeError e).done = true := rfl
@[simp] theorem State.takeError_err : (s.takeError e).err = true := rfl
@[simp] theorem State.takeError_ign : (s.takeError e).ign = s.ign := rfl
@[simp] theorem State.takeError_ecode : (s.takeError e).ecode = e.code := rfl
@[simp] theorem State.takeError_ie : (s.takeError e).ie = s.ie := rfl
@[simp] theorem State.takeError_cycles : (s.takeError e).cycles = s.cycles := rfl
@[simp] theorem State.takeError_height : (s.takeError e).height = s.height := rfl
@[simp] theorem State.takeError_width : (s.takeError e).width = s.width := rfl
@[simp] theorem State.takeError_rt : (s.takeError e).rt = s.rt := rfl
@[simp] theorem State.takeError_operand : (s.takeError e).operand = s.operand := rfl
@[simp] theorem State.takeError_result : (s.takeError e).result = s.result := rfl
@[simp] theorem State.takeError_grid : (s.takeError e).grid = s.grid := rfl
@[simp] theorem State.takeError_schedule : (s.takeError e).schedule = s.schedule := rfl
@[simp] theorem State.takeError_response : (s.takeError e).response = s.response := rfl

end

/-! ### `State.mapGrid` -/

section

variable (s : State) (f : Byte → Byte)

@[simp] theorem State.mapGrid_cfg : (s.mapGrid f).cfg = s.cfg := rfl
@[simp] theorem State.mapGrid_cmd : (s.mapGrid f).cmd = s.cmd := rfl
@[simp] theorem State.mapGrid_busy : (s.mapGrid f).busy = s.busy := rfl
@[simp] theorem State.mapGrid_done : (s.mapGrid f).done = s.done := rfl
@[simp] theorem State.mapGrid_err : (s.mapGrid f).err = s.err := rfl
@[simp] theorem State.mapGrid_ign : (s.mapGrid f).ign = s.ign := rfl
@[simp] theorem State.mapGrid_ecode : (s.mapGrid f).ecode = s.ecode := rfl
@[simp] theorem State.mapGrid_ie : (s.mapGrid f).ie = s.ie := rfl
@[simp] theorem State.mapGrid_cycles : (s.mapGrid f).cycles = s.cycles := rfl
@[simp] theorem State.mapGrid_height : (s.mapGrid f).height = s.height := rfl
@[simp] theorem State.mapGrid_width : (s.mapGrid f).width = s.width := rfl
@[simp] theorem State.mapGrid_rt : (s.mapGrid f).rt = s.rt := rfl
@[simp] theorem State.mapGrid_operand : (s.mapGrid f).operand = s.operand := rfl
@[simp] theorem State.mapGrid_result : (s.mapGrid f).result = s.result := rfl
@[simp] theorem State.mapGrid_grid : (s.mapGrid f).grid = s.grid.mapBelow s.pixelCount f := rfl
@[simp] theorem State.mapGrid_schedule : (s.mapGrid f).schedule = s.schedule := rfl
@[simp] theorem State.mapGrid_response : (s.mapGrid f).response = s.response := rfl

end

/-! ### `State.withCommand` -/

section

variable (s : State) (w : Word)

@[simp] theorem State.withCommand_cfg : (s.withCommand w).cfg = s.cfg := rfl
@[simp] theorem State.withCommand_cmd : (s.withCommand w).cmd = s.cmd := rfl
@[simp] theorem State.withCommand_busy : (s.withCommand w).busy = false := rfl
@[simp] theorem State.withCommand_done : (s.withCommand w).done = s.done := rfl
@[simp] theorem State.withCommand_err : (s.withCommand w).err = s.err := rfl
@[simp] theorem State.withCommand_ign : (s.withCommand w).ign = s.ign := rfl
@[simp] theorem State.withCommand_ecode : (s.withCommand w).ecode = s.ecode := rfl
@[simp] theorem State.withCommand_ie : (s.withCommand w).ie = s.ie := rfl
@[simp] theorem State.withCommand_cycles : (s.withCommand w).cycles = s.cycles := rfl
@[simp] theorem State.withCommand_height : (s.withCommand w).height = s.height := rfl
@[simp] theorem State.withCommand_width : (s.withCommand w).width = s.width := rfl
@[simp] theorem State.withCommand_rt : (s.withCommand w).rt = s.rt := rfl
@[simp] theorem State.withCommand_operand : (s.withCommand w).operand = s.operand := rfl
@[simp] theorem State.withCommand_result : (s.withCommand w).result = s.result := rfl
@[simp] theorem State.withCommand_grid : (s.withCommand w).grid = s.grid := rfl
@[simp] theorem State.withCommand_schedule : (s.withCommand w).schedule = .regWrite Reg.cmd.index w :: s.schedule := rfl
@[simp] theorem State.withCommand_response : (s.withCommand w).response = s.response := rfl

end

/-! ### `State.hardReset` -/

section

variable (s : State)

@[simp] theorem State.hardReset_cfg : s.hardReset.cfg = s.cfg := rfl
@[simp] theorem State.hardReset_cmd : s.hardReset.cmd = 0 := rfl
@[simp] theorem State.hardReset_busy : s.hardReset.busy = false := rfl
@[simp] theorem State.hardReset_done : s.hardReset.done = false := rfl
@[simp] theorem State.hardReset_err : s.hardReset.err = false := rfl
@[simp] theorem State.hardReset_ign : s.hardReset.ign = false := rfl
@[simp] theorem State.hardReset_ecode : s.hardReset.ecode = 0 := rfl
@[simp] theorem State.hardReset_ie : s.hardReset.ie = false := rfl
@[simp] theorem State.hardReset_cycles : s.hardReset.cycles = 0 := rfl
@[simp] theorem State.hardReset_height : s.hardReset.height = 0 := rfl
@[simp] theorem State.hardReset_width : s.hardReset.width = 0 := rfl
@[simp] theorem State.hardReset_rt : s.hardReset.rt = Vector.replicate 8 0 := rfl
@[simp] theorem State.hardReset_operand : s.hardReset.operand = 0 := rfl
@[simp] theorem State.hardReset_result : s.hardReset.result = 0 := rfl
@[simp] theorem State.hardReset_grid : s.hardReset.grid = (if s.gridCommandInFlight then s.grid.poisonBelow s.pixelCount else s.grid) := rfl
@[simp] theorem State.hardReset_schedule : s.hardReset.schedule = s.schedule := rfl
@[simp] theorem State.hardReset_response : s.hardReset.response = .none := rfl

end

/-! ### `State.powerCycle` -/

section

variable (s : State)

@[simp] theorem State.powerCycle_cfg : s.powerCycle.cfg = s.cfg := rfl
@[simp] theorem State.powerCycle_cmd : s.powerCycle.cmd = 0 := rfl
@[simp] theorem State.powerCycle_busy : s.powerCycle.busy = false := rfl
@[simp] theorem State.powerCycle_done : s.powerCycle.done = false := rfl
@[simp] theorem State.powerCycle_err : s.powerCycle.err = false := rfl
@[simp] theorem State.powerCycle_ign : s.powerCycle.ign = false := rfl
@[simp] theorem State.powerCycle_ecode : s.powerCycle.ecode = 0 := rfl
@[simp] theorem State.powerCycle_ie : s.powerCycle.ie = false := rfl
@[simp] theorem State.powerCycle_cycles : s.powerCycle.cycles = 0 := rfl
@[simp] theorem State.powerCycle_height : s.powerCycle.height = 0 := rfl
@[simp] theorem State.powerCycle_width : s.powerCycle.width = 0 := rfl
@[simp] theorem State.powerCycle_rt : s.powerCycle.rt = Vector.replicate 8 0 := rfl
@[simp] theorem State.powerCycle_operand : s.powerCycle.operand = 0 := rfl
@[simp] theorem State.powerCycle_result : s.powerCycle.result = 0 := rfl
@[simp] theorem State.powerCycle_grid : s.powerCycle.grid = [] := rfl
@[simp] theorem State.powerCycle_schedule : s.powerCycle.schedule = s.schedule := rfl
@[simp] theorem State.powerCycle_response : s.powerCycle.response = .none := rfl

end

/-! ### `State.powerOn` -/

section

variable (c : Config)

@[simp] theorem State.powerOn_cfg : (State.powerOn c).cfg = c := rfl
@[simp] theorem State.powerOn_cmd : (State.powerOn c).cmd = 0 := rfl
@[simp] theorem State.powerOn_busy : (State.powerOn c).busy = false := rfl
@[simp] theorem State.powerOn_done : (State.powerOn c).done = false := rfl
@[simp] theorem State.powerOn_err : (State.powerOn c).err = false := rfl
@[simp] theorem State.powerOn_ign : (State.powerOn c).ign = false := rfl
@[simp] theorem State.powerOn_ecode : (State.powerOn c).ecode = 0 := rfl
@[simp] theorem State.powerOn_ie : (State.powerOn c).ie = false := rfl
@[simp] theorem State.powerOn_cycles : (State.powerOn c).cycles = 0 := rfl
@[simp] theorem State.powerOn_height : (State.powerOn c).height = 0 := rfl
@[simp] theorem State.powerOn_width : (State.powerOn c).width = 0 := rfl
@[simp] theorem State.powerOn_rt : (State.powerOn c).rt = Vector.replicate 8 0 := rfl
@[simp] theorem State.powerOn_operand : (State.powerOn c).operand = 0 := rfl
@[simp] theorem State.powerOn_result : (State.powerOn c).result = 0 := rfl
@[simp] theorem State.powerOn_grid : (State.powerOn c).grid = [] := rfl
@[simp] theorem State.powerOn_schedule : (State.powerOn c).schedule = [] := rfl
@[simp] theorem State.powerOn_response : (State.powerOn c).response = .none := rfl

end

end Sys2Proof.Machine
end

