-- ==== Sys2Proof/Laws/Ops.lean ====
section
/-! SUPPORT. What each shared operation can do, said once. -/

namespace Sys2Proof.Machine

/-- Every slot is supported, read slot by slot. -/
theorem tableSupported_iff (rt : Vector Byte 8) : tableSupported rt = true ↔ ∀ k : Fin 8, supported rt[k] = true := by
  simp [tableSupported, Fin.forall_fin_succ, and_assoc]

@[simp] theorem State.issue_error (s : State) (w : Word) (e : ErrorCode) :
    s.issue w (some e) = (s.accept w).takeError e := rfl

@[simp] theorem State.issue_inFlight (s : State) (w : Word) : s.issue w none = (s.accept w).setBusy := rfl

/-- A step of a command's life always answers a next state: the completion where BUSY = 1, else an error or a command in flight. -/
theorem State.runCommand_cases (s : State) (i : Instr) (checks : Option ErrorCode) (effect : State) :
    (s.busy = true ∧ s.runCommand i checks effect = .next effect.finish) ∨
    (s.busy = false ∧ ∃ e, checks = some e ∧ s.runCommand i checks effect = .next ((s.accept (encode i)).takeError e)) ∨
    (s.busy = false ∧ checks = none ∧ s.runCommand i checks effect = .next (s.accept (encode i)).setBusy) := by
  cases hb : s.busy <;> cases checks <;> simp [State.runCommand, State.issue, hb]

@[simp] theorem State.runCommand_busy {s : State} (h : s.busy = true) (i : Instr) (checks : Option ErrorCode) (effect : State) :
    s.runCommand i checks effect = .next effect.finish := by simp [State.runCommand, h]

@[simp] theorem State.runCommand_idle {s : State} (h : s.busy = false) (i : Instr) (checks : Option ErrorCode) (effect : State) :
    s.runCommand i checks effect = .next (s.issue (encode i) checks) := by simp [State.runCommand, h]

/-- What a grid read can answer. -/
theorem State.gridRead_cases (s : State) (a : Nat) :
    (2 ^ gridAddrWidth s.cfg.maxPixels ≤ a ∧ s.gridRead a = .fault (.addressOffPort a)) ∨
    (s.cfg.maxPixels ≤ a ∧ s.gridRead a = .next (s.respond (.grid 0))) ∨
    (a < s.cfg.maxPixels ∧ ∃ v, s.grid.read a = some v ∧ s.gridRead a = .next (s.respond (.grid v))) ∨
    (a < s.cfg.maxPixels ∧ s.grid.read a = none ∧ s.gridRead a = .fault (.poisonRead a)) := by
  unfold State.gridRead
  split
  · exact .inl ⟨‹_›, rfl⟩
  · split
    · exact .inr (.inl ⟨‹_›, rfl⟩)
    · have h : a < s.cfg.maxPixels := by omega
      cases hr : s.grid.read a with
      | some v => exact .inr (.inr (.inl ⟨h, v, rfl, rfl⟩))
      | none => exact .inr (.inr (.inr ⟨h, rfl, rfl⟩))

/-- What a grid write can answer. -/
theorem State.gridWrite_cases (s : State) (a : Nat) (v : Byte) :
    (2 ^ gridAddrWidth s.cfg.maxPixels ≤ a ∧ s.gridWrite a v = .fault (.addressOffPort a)) ∨
    (s.cfg.maxPixels ≤ a ∧ s.gridWrite a v = .next s) ∨
    (a < s.cfg.maxPixels ∧ s.gridWrite a v = .next (s.setGrid (s.grid.write a v))) := by
  unfold State.gridWrite
  split
  · exact .inl ⟨‹_›, rfl⟩
  · split
    · exact .inr (.inl ⟨‹_›, rfl⟩)
    · exact .inr (.inr ⟨by omega, rfl⟩)

/-- A cell of the memory has an address that fits the port: `P_MAX_PIXELS <= 2^P_GRID_AW` (00_scope.md R9). -/
theorem maxPixels_le_two_pow (n : Nat) : n ≤ 2 ^ gridAddrWidth n := by
  unfold gridAddrWidth
  by_cases h : n ≤ 1
  · simp [h]
    omega
  · simp only [h, if_false]
    have hlt := @Nat.lt_log2_self (n - 1)
    have hle : 2 ^ ((n - 1).log2 + 1) ≤ 2 ^ max 1 ((n - 1).log2 + 1) :=
      Nat.pow_le_pow_right (by decide) (Nat.le_max_right _ _)
    omega

/-- A honoured write of a register that is not CMD changes only what the port can store: never CMD, BUSY, RESULT, the grid, the
parameters or the model's own fields. -/
theorem State.storeReg_frame (s : State) (r : Reg) (w : Word) (h : r ≠ .cmd) :
    (s.storeReg r w).cfg = s.cfg ∧ (s.storeReg r w).cmd = s.cmd ∧ (s.storeReg r w).busy = s.busy ∧
    (s.storeReg r w).result = s.result ∧ (s.storeReg r w).grid = s.grid ∧
    (s.storeReg r w).schedule = s.schedule ∧ (s.storeReg r w).response = s.response := by
  cases r <;> simp_all [State.storeReg]

/-- A register write: ignored at a reserved index, ignored with IGN while BUSY = 1, a command's accept, or a stored field. -/
theorem State.regWrite_cases (s : State) (i : BitVec 6) (w : Word) :
    (Reg.ofIndex i = none ∧ s.regWrite i w = .done (.next s)) ∨
    (∃ r, Reg.ofIndex i = some r ∧ s.busy = true ∧ r.busyProtected = true ∧ s.regWrite i w = .done (.next s.setIgn)) ∨
    (Reg.ofIndex i = some .cmd ∧ s.busy = false ∧ s.regWrite i w = s.commandWrite w) ∨
    (∃ r, Reg.ofIndex i = some r ∧ r ≠ .cmd ∧ (s.busy && r.busyProtected) = false ∧
      s.regWrite i w = .done (.next (s.storeReg r w))) := by
  unfold State.regWrite
  cases hr : Reg.ofIndex i with
  | none => exact .inl ⟨rfl, rfl⟩
  | some r =>
    simp only
    by_cases hb : (s.busy && r.busyProtected) = true
    · rw [if_pos hb]
      simp only [Bool.and_eq_true] at hb
      exact .inr (.inl ⟨r, rfl, hb.1, hb.2, rfl⟩)
    · rw [if_neg hb]
      simp only [Bool.not_eq_true] at hb
      by_cases hc : r = .cmd
      · subst hc
        exact .inr (.inr (.inl ⟨rfl, by simpa [Reg.busyProtected] using hb, rfl⟩))
      · rw [if_neg hc]
        exact .inr (.inr (.inr ⟨r, rfl, hc, hb, rfl⟩))

/-- A CMD write while BUSY = 0: the legal word's command runs, an ILLEGAL word is taken with ECODE 1. -/
theorem State.commandWrite_cases (s : State) (w : Word) :
    (∃ i, decode w = .ok i ∧ s.commandWrite w = .run i s) ∨
    (∃ e, decode w = .error e ∧ s.commandWrite w = .done (.next ((s.accept w).takeError .illegalCmd))) := by
  unfold State.commandWrite
  cases h : decode w with
  | ok i => exact .inl ⟨i, rfl, rfl⟩
  | error e => exact .inr ⟨e, rfl, rfl⟩

/-- The engine's turn: the command CMD holds, nothing where BUSY = 0, and a refusal where CMD holds no legal command. -/
theorem State.engineTurn_cases (s : State) :
    (s.busy = false ∧ s.engineTurn = .done (.next s)) ∨
    (s.busy = true ∧ ∃ i, decode s.cmd = .ok i ∧ s.engineTurn = .run i s) ∨
    (s.busy = true ∧ ∃ e, decode s.cmd = .error e ∧ s.engineTurn = .done (.refused (.illegalWordInFlight s.cmd))) := by
  unfold State.engineTurn
  cases hb : s.busy with
  | false => exact .inl ⟨rfl, rfl⟩
  | true =>
    cases h : decode s.cmd with
    | ok i => exact .inr (.inl ⟨rfl, i, rfl, rfl⟩)
    | error e => exact .inr (.inr ⟨rfl, e, rfl, rfl⟩)

end Sys2Proof.Machine
end

