-- ==== Sys2Proof/Laws/PerInstr.lean ====
section
/-! SUPPORT. Facts about every command as syntax, one lemma per constructor. -/

namespace Sys2Proof.Laws.OpcodeWord

/-- The command's word has OP in 0x0..0xA and every reserved bit 0, and the command is well formed (30_encoding.md R90, R91). -/
def Statement (i : Instr) : Prop := (encode i).toNat ≤ 0xA ∧ (encode i).extractLsb 31 4 = 0 ∧ i.wellFormed = true

theorem nop : Statement .nop := ⟨by decide, by decide, rfl⟩
theorem eval : Statement .eval := ⟨by decide, by decide, rfl⟩
theorem step : Statement .step := ⟨by decide, by decide, rfl⟩
theorem iter : Statement .iter := ⟨by decide, by decide, rfl⟩
theorem mask : Statement .mask := ⟨by decide, by decide, rfl⟩
theorem unmask : Statement .unmask := ⟨by decide, by decide, rfl⟩
theorem encpix : Statement .encpix := ⟨by decide, by decide, rfl⟩
theorem decpix : Statement .decpix := ⟨by decide, by decide, rfl⟩
theorem run : Statement .run := ⟨by decide, by decide, rfl⟩
theorem encrypt : Statement .encrypt := ⟨by decide, by decide, rfl⟩
theorem decrypt : Statement .decrypt := ⟨by decide, by decide, rfl⟩

end Sys2Proof.Laws.OpcodeWord
end

