-- ==== Sys2Proof/Laws/Step.lean ====
section
/-! SUPPORT. What one step can do: inversion of `step` and of `exec`. -/

namespace Sys2Proof.Machine

theorem step_run {s t : State} {i : Instr} (h : s.nextAction = .run i t) : step s = exec i t := by simp [step, h]

theorem step_done {s : State} {o : Host.Outcome State Fault Refusal} (h : s.nextAction = .done o) : step s = o := by
  simp [step, h]

/-- What a step of the command `i` leaves alone, whatever it does (10_state.md R35 to R38, R45; 20_memory.md R73). -/
structure CommandFrame (s t : State) : Prop where
  cfg : t.cfg = s.cfg
  ign : t.ign = s.ign
  ie : t.ie = s.ie
  cycles : t.cycles = s.cycles
  height : t.height = s.height
  width : t.width = s.width
  rt : t.rt = s.rt
  operand : t.operand = s.operand
  schedule : t.schedule = s.schedule
  response : t.response = s.response

theorem State.runCommand_frame {s t effect : State} {i : Instr} {checks : Option ErrorCode}
    (he : CommandFrame s effect) (h : s.runCommand i checks effect = .next t) : CommandFrame s t := by
  rcases s.runCommand_cases i checks effect with ⟨_, hr⟩ | ⟨_, e, _, hr⟩ | ⟨_, _, hr⟩ <;>
    obtain rfl := Host.Outcome.next.inj (hr.symm.trans h)
  · exact ⟨he.cfg, he.ign, he.ie, he.cycles, he.height, he.width, he.rt, he.operand, he.schedule, he.response⟩
  · exact ⟨rfl, rfl, rfl, rfl, rfl, rfl, rfl, rfl, rfl, rfl⟩
  · exact ⟨rfl, rfl, rfl, rfl, rfl, rfl, rfl, rfl, rfl, rfl⟩

theorem State.setResult_frame (s : State) (v : Word) : CommandFrame s (s.setResult v) :=
  ⟨rfl, rfl, rfl, rfl, rfl, rfl, rfl, rfl, rfl, rfl⟩

theorem State.mapGrid_frame (s : State) (f : Byte → Byte) : CommandFrame s (s.mapGrid f) :=
  ⟨rfl, rfl, rfl, rfl, rfl, rfl, rfl, rfl, rfl, rfl⟩

/-- No command changes a configuration register, IGN, IE, OPERAND or the parameters. -/
theorem exec_frame {i : Instr} {s t : State} (h : exec i s = .next t) : CommandFrame s t := by
  cases i with
  | nop =>
    simp only [exec, execNop] at h
    split at h <;> obtain rfl := Host.Outcome.next.inj h <;> exact ⟨rfl, rfl, rfl, rfl, rfl, rfl, rfl, rfl, rfl, rfl⟩
  | eval | step | iter | mask | unmask | encpix | decpix => exact s.runCommand_frame (s.setResult_frame _) h
  | run | encrypt | decrypt => exact s.runCommand_frame (s.mapGrid_frame _) h

/-- A step of a command's life neither faults nor is refused (60_exceptions.md R214). -/
theorem exec_answers_next (i : Instr) (s : State) : ∃ t, exec i s = .next t := by
  have run (i : Instr) (checks : Option ErrorCode) (effect : State) : ∃ t, s.runCommand i checks effect = .next t := by
    rcases s.runCommand_cases i checks effect with ⟨_, hr⟩ | ⟨_, _, _, hr⟩ | ⟨_, _, hr⟩ <;> exact ⟨_, hr⟩
  cases i with
  | nop => cases hb : s.busy <;> simp [exec, execNop, hb]
  | eval | step | iter | mask | unmask | encpix | decpix | run | encrypt | decrypt => exact run ..

/-- While a command is in flight, a step of it is its completion: BUSY falls and DONE rises, and CMD, ERR and ECODE stay. -/
theorem exec_busy {i : Instr} {s t : State} (hb : s.busy = true) (h : exec i s = .next t) :
    t.busy = false ∧ t.done = true ∧ t.cmd = s.cmd ∧ t.err = s.err ∧ t.ecode = s.ecode := by
  cases i <;>
    simp only [exec, execNop, execEval, execStep, execIter, execMask, execUnmask, execEncpix, execDecpix, execRun, execEncrypt,
      execDecrypt, hb, State.runCommand_busy, if_true] at h <;>
    obtain rfl := Host.Outcome.next.inj h <;> exact ⟨rfl, rfl, rfl, rfl, rfl⟩

/-- The state once the event at the head of the schedule is taken, `rest` remaining. -/
abbrev State.past (s : State) (rest : List Event) : State := (s.respond .none).withSchedule rest

/-- Everything the next step can be, by the head of the schedule. -/
inductive StepCase (s : State) : Action → Prop
  /-- the engine's turn: after its own event, or with the schedule as it is (no event left, or a grid transaction waiting) -/
  | engine (rest : List Event) (turn : s.engineIsNext = true) (rests : rest = s.schedule ∨ ∃ e, s.schedule = e :: rest) :
      StepCase s (s.past rest).engineTurn
  | regRead (i : BitVec 6) (rest : List Event) (head : s.schedule = .regRead i :: rest) :
      StepCase s (.done (.next ((s.past rest).respond (.reg (s.readIndex i)))))
  | regWrite (i : BitVec 6) (w : Word) (rest : List Event) (head : s.schedule = .regWrite i w :: rest) :
      StepCase s ((s.past rest).regWrite i w)
  | gridRead (a : Nat) (rest : List Event) (idle : s.busy = false) (head : s.schedule = .gridRead a :: rest) :
      StepCase s (.done ((s.past rest).gridRead a))
  | gridWrite (a : Nat) (v : Byte) (rest : List Event) (idle : s.busy = false) (head : s.schedule = .gridWrite a v :: rest) :
      StepCase s (.done ((s.past rest).gridWrite a v))
  | reset (rest : List Event) (head : s.schedule = .reset :: rest) : StepCase s (.done (.next (s.past rest).hardReset))
  | powerCycle (rest : List Event) (head : s.schedule = .powerCycle :: rest) :
      StepCase s (.done (.next (s.past rest).powerCycle))

/-- Inversion of a step: cite this instead of unfolding `step`. -/
theorem State.nextAction_case (s : State) : StepCase s s.nextAction := by
  cases hs : s.schedule with
  | nil =>
    have h : s.nextAction = (s.past []).engineTurn := by
      simp [State.nextAction, State.past, State.respond, State.withSchedule, hs]
    exact h ▸ .engine (s := s) [] (by simp [State.engineIsNext, hs]) (.inl hs.symm)
  | cons e rest =>
    have held (turn : s.engineIsNext = true) (h : s.nextAction = (s.past s.schedule).engineTurn) : StepCase s s.nextAction :=
      h ▸ .engine (s := s) s.schedule turn (.inl rfl)
    cases e with
    | engine =>
      have h : s.nextAction = (s.past rest).engineTurn := by simp [State.nextAction, hs]
      exact h ▸ .engine (s := s) rest (by simp [State.engineIsNext, hs]) (.inr ⟨_, hs⟩)
    | regRead i =>
      have h : s.nextAction = .done (.next ((s.past rest).respond (.reg (s.readIndex i)))) := by simp [State.nextAction, hs]
      exact h ▸ .regRead (s := s) i rest hs
    | regWrite i w =>
      have h : s.nextAction = (s.past rest).regWrite i w := by simp [State.nextAction, hs]
      exact h ▸ .regWrite (s := s) i w rest hs
    | gridRead a =>
      cases hb : s.busy with
      | false =>
        have h : s.nextAction = .done ((s.past rest).gridRead a) := by
          simp [State.nextAction, hs, State.gridTurn, State.gridReady, hb]
        exact h ▸ .gridRead (s := s) a rest hb hs
      | true =>
        refine held (by simp [State.engineIsNext, hs]) ?_
        simp [State.nextAction, State.gridTurn, State.gridReady, hb, hs]
        simp [State.withSchedule, ← hs, State.respond]
    | gridWrite a v =>
      cases hb : s.busy with
      | false =>
        have h : s.nextAction = .done ((s.past rest).gridWrite a v) := by
          simp [State.nextAction, hs, State.gridTurn, State.gridReady, hb]
        exact h ▸ .gridWrite (s := s) a v rest hb hs
      | true =>
        refine held (by simp [State.engineIsNext, hs]) ?_
        simp [State.nextAction, State.gridTurn, State.gridReady, hb, hs]
        simp [State.withSchedule, ← hs, State.respond]
    | reset =>
      have h : s.nextAction = .done (.next (s.past rest).hardReset) := by simp [State.nextAction, hs]
      exact h ▸ .reset (s := s) rest hs
    | powerCycle =>
      have h : s.nextAction = .done (.next (s.past rest).powerCycle) := by simp [State.nextAction, hs]
      exact h ▸ .powerCycle (s := s) rest hs

/-- A step answers what its action does: `exec` of the command it runs, or the outcome of what runs none. -/
theorem step_eq (s : State) :
    step s = (match s.nextAction with
      | .run i t => exec i t
      | .done o => o) := rfl

end Sys2Proof.Machine
end

