-- ==== Sys2Proof/Machine/HostProgram.lean ====
section
/-! DEFINITION. Host-program notation (30_encoding.md R100 to R102): each line is one transaction, and the pseudo-instructions are
lists of them. -/

namespace Sys2Proof.Machine

/-- `WR <REG>, <u32>` (30_encoding.md R100). -/
def Event.wr (r : Reg) (w : Word) : Event := .regWrite r.index w

/-- `RD <REG>` (30_encoding.md R100). -/
def Event.rd (r : Reg) : Event := .regRead r.index

/-- `ISSUE <MN>` (30_encoding.md R101). -/
def Event.issue (i : Instr) : Event := .wr .cmd (encode i)

/-- `SETRULES r0,...,r7` (30_encoding.md R102). -/
def setRulesProgram (rt : Vector Byte 8) : List Event := [.wr .rules0 (rules0Word rt), .wr .rules1 (rules1Word rt)]

/-- `SETDIM h, w` (30_encoding.md R102). -/
def setDimProgram (h w : Word) : List Event := [.wr .height h, .wr .width w]

/-- `CLRSTAT` (30_encoding.md R102). -/
def clrStatProgram : List Event := [.wr .status 0x0000000E]

/-- `WAIT` (30_encoding.md R102) in the run where the engine completes after `polls` reads of STATUS: the next read sees DONE. -/
def waitProgram (polls : Nat) : List Event := List.replicate polls (.rd .status) ++ [.engine, .rd .status]

/-- `EVALQ rid, a, b, c` (30_encoding.md R102). -/
def evalqProgram (polls : Nat) (rid : Byte) (a b c : Bool) : List Event :=
  [.wr .operand (0#21 ++ BitVec.ofBool a ++ BitVec.ofBool b ++ BitVec.ofBool c ++ rid), .issue .eval]
    ++ waitProgram polls ++ [.rd .result]

/-- `SCALAR <MN>, x` (30_encoding.md R102). -/
def scalarProgram (polls : Nat) (i : Instr) (x : Word) : List Event :=
  [.wr .operand x, .issue i] ++ waitProgram polls ++ [.rd .result]

/-- `GLOAD base, v0, v1, ...` (30_encoding.md R102). -/
def gloadProgram : Nat → List Byte → List Event
  | _, [] => []
  | base, v :: vs => .gridWrite base v :: gloadProgram (base + 1) vs

/-- `GDUMP base, n` (30_encoding.md R102). -/
def gdumpProgram : Nat → Nat → List Event
  | _, 0 => []
  | base, n + 1 => .gridRead base :: gdumpProgram (base + 1) n

/-- `n` hexadecimal digits of a number, the most significant first (30_encoding.md R100). -/
def hexDigits : Nat → Nat → List Char
  | 0, _ => []
  | n + 1, v => hexDigits n (v / 16) ++ [Nat.digitChar (v % 16) |>.toUpper]

/-- The encoding column of 30_encoding.md R100: port, direction, index or address, data. `none` for an event that is no
transaction. -/
def Event.line : Event → Option (List Char)
  | .regWrite i w => some (['R', 'E', 'G', ' ', 'W', ' '] ++ hexDigits 2 i.toNat ++ [' '] ++ hexDigits 8 w.toNat)
  | .regRead i => some (['R', 'E', 'G', ' ', 'R', ' '] ++ hexDigits 2 i.toNat ++ [' '] ++ List.replicate 8 '-')
  | .gridWrite a v => some (['G', 'R', 'I', 'D', ' ', 'W', ' '] ++ hexDigits 8 a ++ [' '] ++ hexDigits 2 v.toNat)
  | .gridRead a => some (['G', 'R', 'I', 'D', ' ', 'R', ' '] ++ hexDigits 8 a ++ [' '] ++ ['-', '-'])
  | .engine | .reset | .powerCycle => none

end Sys2Proof.Machine
end

