-- ==== Sys2Proof/Tests/Slice0.lean ====
section
/-! SUPPORT. Tests against the values of spec/95_test_vectors.md (each names its section), the smoke tests of WellFormed, and for
every statement with hypotheses a named state and operands that meet them. -/

namespace Sys2Proof.Tests

open Sys2Proof Sys2Proof.Machine Sys2Proof.Reference

/-! ### Small states -/

/-- The block of section L3: P_MAX_PIXELS = 16, XNOR_AC, right after power-on. -/
def fresh : State := State.powerOn ⟨16, .xnorAc⟩

/-- The reference table, CYCLES = 4, a 2x3 grid, and OPERAND = {RID 150, a = 1}. -/
def ready : State :=
  { fresh with
    rt := referenceTable, cycles := 4, height := 2, width := 3, operand := 0x496
    grid := [(0, 0x00), (1, 0x01), (2, 0x80), (3, 0x55), (4, 0xAA), (5, 0xFF)] }

/-- A command in flight. -/
def flying (i : Instr) : State := { ready with busy := true, cmd := encode i }

/-- A host program to come. -/
def withEvents (s : State) (es : List Event) : State := { s with schedule := es }

/-- The state a step answers, looked at through `f`. -/
def after {α : Type} (f : State → α) : Host.Outcome State Fault Refusal → Option α
  | .next t => some (f t)
  | _ => none

/-! ### Well-formedness -/

theorem test_every_command_is_wellFormed : Instr.nop.wellFormed = true ∧ Instr.decrypt.wellFormed = true := by decide

/-- 00_scope.md R9: 16 cells need 4 address bits, 12 cells too, and one cell one bit. -/
theorem test_gridAddrWidth : gridAddrWidth 16 = 4 ∧ gridAddrWidth 12 = 4 ∧ gridAddrWidth 17 = 5 ∧ gridAddrWidth 1 = 1 := by decide

theorem test_gridRead_off_port_is_illFormed :
    (Event.gridRead 16).wellFormed ⟨16, .xnorAc⟩ = false ∧ (Event.gridRead 15).wellFormed ⟨16, .xnorAc⟩ = true := by decide

theorem test_gridWrite_off_port_is_illFormed :
    (Event.gridWrite 16 0).wellFormed ⟨12, .xnorAc⟩ = false ∧ (Event.gridWrite 15 0).wellFormed ⟨12, .xnorAc⟩ = true := by decide

/-! ### Decoding: words written out bit by bit from the table's encoding column -/

theorem test_decode_nop : decode 0b00000000000000000000000000000000 = .ok .nop := by decide
theorem test_decode_eval : decode 0b00000000000000000000000000000001 = .ok .eval := by decide
theorem test_decode_step : decode 0b00000000000000000000000000000010 = .ok .step := by decide
theorem test_decode_iter : decode 0b00000000000000000000000000000011 = .ok .iter := by decide
theorem test_decode_mask : decode 0b00000000000000000000000000000100 = .ok .mask := by decide
theorem test_decode_unmask : decode 0b00000000000000000000000000000101 = .ok .unmask := by decide
theorem test_decode_encpix : decode 0b00000000000000000000000000000110 = .ok .encpix := by decide
theorem test_decode_decpix : decode 0b00000000000000000000000000000111 = .ok .decpix := by decide
theorem test_decode_run : decode 0b00000000000000000000000000001000 = .ok .run := by decide
theorem test_decode_encrypt : decode 0b00000000000000000000000000001001 = .ok .encrypt := by decide
theorem test_decode_decrypt : decode 0b00000000000000000000000000001010 = .ok .decrypt := by decide

/-- L2.7: the illegal words. -/
theorem test_decode_illegal :
    decode 0b00000000000000000000000000001011 = .error .reservedOp ∧ decode 0xF = .error .reservedOp ∧
    decode 0b00000000000000000000000000010000 = .error .reservedBits ∧ decode 0x80000009 = .error .reservedBits := by decide

theorem test_decodeTableWord : decodeTableWord 32 9 = some .encrypt ∧ decodeTableWord 32 11 = none := by decide

/-- The word placed by `withFetchWord` is the one the next step runs: ENCRYPT straight after reset fails with ECODE 2 (R245). -/
theorem test_withFetchWord : after (fun t => (t.cmd, t.ecode)) (step (State.reset.withFetchWord 32 9)) = some (9, 2) := by decide

/-! ### The commands: at most two each, values from 95_test_vectors.md -/

/-- L2.8: NOP after an error leaves STATUS = 0x00000002, and does not clear IGN. -/
theorem test_nop_clears_error :
    after State.statusWord (exec .nop { ready with done := true, err := true, ecode := 2 }) = some 0x00000002 := by decide
theorem test_nop_keeps_ign : after State.statusWord (exec .nop { ready with done := true, ign := true }) = some 0x0000000A := by decide

/-- L2.2: rule 150 on (1,0,0). -/
theorem test_eval_rule150 : after State.result (exec .eval (flying .eval)) = some 0x00000001 := by decide
/-- L2.2: rule 165 on (1,0,0) in both builds. -/
theorem test_eval_rule165_modes :
    after State.result (exec .eval { flying .eval with operand := 0x4A5 }) = some 0 ∧
    after State.result (exec .eval { flying .eval with operand := 0x4A5, cfg := ⟨16, .constOne⟩ }) = some 1 := by decide

/-- P1: STEP of 0xB4 with the reference table. -/
theorem test_step_b4 : after State.result (exec .step { flying .step with operand := 0xB4 }) = some 0x000000DF := by decide
/-- L2.7: STEP in the reset state. -/
theorem test_step_fails_after_reset : after State.statusWord (exec .step fresh) = some 0x00000026 := by decide

/-- L2.3: ITER of 0x55 for 5 rounds; OPERAND[31:8] is ignored. -/
theorem test_iter_55 :
    after State.result (exec .iter { flying .iter with operand := 0xFFFFFF55, cycles := 5 }) = some 0x0000003A := by decide
/-- L2.7: ITER with CYCLES = 0. -/
theorem test_iter_fails_at_zero_cycles : after State.statusWord (exec .iter { ready with cycles := 0 }) = some 0x00000036 := by decide

/-- L2.4 -/
theorem test_mask_b4 : after State.result (exec .mask { flying .mask with operand := 0xB4 }) = some 0x0000007C := by decide
/-- L2.7: MASK in the reset state goes in flight. -/
theorem test_mask_in_flight_after_reset : after State.statusWord (exec .mask fresh) = some 0x00000001 := by decide

/-- L2.4 -/
theorem test_unmask_7f : after State.result (exec .unmask { flying .unmask with operand := 0x7F }) = some 0x0000000D := by decide
theorem test_unmask_ff : after State.result (exec .unmask { flying .unmask with operand := 0xFF }) = some 0x0000008D := by decide

/-- L2.5: ENCPIX of 0xB4, c = 4 and c = 1. -/
theorem test_encpix_b4 : after State.result (exec .encpix { flying .encpix with operand := 0xB4 }) = some 0x000000B2 := by decide
theorem test_encpix_b4_one_cycle :
    after State.result (exec .encpix { flying .encpix with operand := 0xB4, cycles := 1 }) = some 0x000000E5 := by decide

/-- L2.5: DECPIX of ENCPIX's result, c = 4 (round trip) and c = 1 (none). -/
theorem test_decpix_b2 : after State.result (exec .decpix { flying .decpix with operand := 0xB2 }) = some 0x000000B4 := by decide
theorem test_decpix_93_one_cycle :
    after State.result (exec .decpix { flying .decpix with operand := 0x93, cycles := 1 }) = some 0x00000014 := by decide

/-- L2.6: RUN, c = 4, 2x3. -/
theorem test_run_six_cells :
    after State.grid (exec .run (flying .run)) = some [(0, 0x42), (1, 0x43), (2, 0xC2), (3, 0x17), (4, 0x6E), (5, 0x3B)] := by decide
/-- L2.6: cells at N and above are untouched, and poison stays poison. -/
theorem test_run_outside_and_poison :
    after State.grid (exec .run { flying .run with cycles := 1, height := 1, width := 2, grid := [(1, 0xFF), (2, 0x77)] })
      = some [(1, 0x02), (2, 0x77)] := by decide

/-- L2.6: ENCRYPT, c = 4, 2x3. -/
theorem test_encrypt_six_cells :
    after State.grid (exec .encrypt (flying .encrypt))
      = some [(0, 0x36), (1, 0xF1), (2, 0xB6), (3, 0xCD), (4, 0x5A), (5, 0x19)] := by decide
/-- L2.6: HEIGHT x WIDTH = P_MAX_PIXELS succeeds, one more fails with ECODE 4. -/
theorem test_encrypt_size_limit :
    after State.statusWord (exec .encrypt { ready with height := 4, width := 4 }) = some 0x00000001 ∧
    after State.statusWord (exec .encrypt { ready with height := 17, width := 1 }) = some 0x00000046 := by decide

/-- L2.6: DECRYPT, c = 4. -/
theorem test_decrypt_two_cells :
    after State.grid (exec .decrypt { flying .decrypt with height := 1, width := 2, grid := [(0, 0x36), (1, 0x19)] })
      = some [(0, 0x00), (1, 0xFF)] := by decide
/-- L2.7: a bad slot, CYCLES = 0 and a grid too large report only ECODE 2. -/
theorem test_decrypt_error_priority :
    after State.statusWord (exec .decrypt { ready with rt := ready.rt.set 5 0x57, cycles := 0, height := 5, width := 5 })
      = some 0x00000026 := by decide

/-! ### The ports, the flags and reset: one step each -/

/-- L2.7: an illegal word is stored in CMD and completes with ECODE 1. -/
theorem test_illegal_word :
    after (fun t => (t.cmd, t.statusWord)) (step (withEvents ready [.wr .cmd 0x18])) = some (0x18, 0x00000016) := by decide

/-- L2.8: a busy write of CYCLES is ignored and sets IGN. -/
theorem test_busy_write :
    after (fun t => (t.cycles, t.statusWord)) (step (withEvents (flying .run) [.wr .cycles 9])) = some (4, 0x00000009) := by decide

/-- L2.8: the W1C bits of STATUS. -/
theorem test_status_w1c :
    after State.statusWord (step (withEvents { ready with done := true, err := true, ecode := 2 } [.wr .status 2])) = some 0x24 ∧
    after State.statusWord (step (withEvents { ready with done := true, err := true, ecode := 2 } [.wr .status 4])) = some 0x02 ∧
    after State.statusWord (step (withEvents { ready with done := true, err := true, ecode := 2 } [.wr .status 0xF1])) = some 0x26 := by
  decide

/-- R31: RULES0 packs slot 0 in bits 7:0; and a reserved index reads 0 (L2.8). -/
theorem test_register_reads :
    after State.response (step (withEvents ready [.rd .rules1])) = some (.reg 0x99F05633) ∧
    after State.response (step (withEvents ready [.regRead 12])) = some (.reg 0) ∧
    after State.response (step (withEvents ready [.rd .maxpix])) = some (.reg 16) := by decide

/-- L2.6: HEIGHT[31:16] is dropped on write. -/
theorem test_height_drops_high_half : after State.height (step (withEvents ready [.wr .height 0x00010002])) = some 2 := by decide

/-- L2.9: P_MAX_PIXELS = 12, address 13 reads 0x00 with no fault; a poison cell faults. -/
theorem test_grid_reads :
    after State.response (step (withEvents { ready with cfg := ⟨12, .xnorAc⟩ } [.gridRead 13])) = some (.grid 0) ∧
    after State.response (step (withEvents ready [.gridRead 3])) = some (.grid 0x55) ∧
    step (withEvents ready [.gridRead 6]) = .fault (.poisonRead 6) := ⟨by decide, by decide, rfl⟩

/-- L2.9: a reset while ENCRYPT runs over 2 cells. -/
theorem test_reset_poisons_interrupted_grid :
    after State.grid (step (withEvents { flying .encrypt with height := 2, width := 1 } [.reset]))
      = some [(2, 0x80), (3, 0x55), (4, 0xAA), (5, 0xFF)] := by decide

/-- L2.9: a reset while STEP runs changes no cell. -/
theorem test_reset_keeps_grid : after State.grid (step (withEvents (flying .step) [.reset])) = some ready.grid := by decide

/-- L2.2, L2.3 and 40_bitcodec.md: primitives. -/
theorem test_codec_b4 : encodeBits 0xB4 = #v[true, false, true, true, false, true, false, false] := by decide
theorem test_uniform_86 : automatonStep .xnorAc (Vector.replicate 8 86) 0xB4 = 0x96 := by decide

/-- 30_encoding.md R101: the encoding of ISSUE ENCRYPT. -/
theorem test_line_of_issue_encrypt :
    (Event.issue .encrypt).line =
      some ['R', 'E', 'G', ' ', 'W', ' ', '0', '0', ' ', '0', '0', '0', '0', '0', '0', '0', '9'] := by decide

/-! ### Witnesses: a state and operands that meet the hypotheses of each statement, clause by clause -/

theorem flying_run_consistent : Consistent (flying .run) :=
  ⟨by decide, by decide, by decide, by decide, by decide, fun _ => by decide⟩

theorem flying_mask_consistent : Consistent (flying .mask) :=
  ⟨by decide, by decide, by decide, by decide, by decide, fun _ => by decide⟩

theorem ready_consistent : Consistent ready := ⟨by decide, by decide, by decide, by decide, by decide, fun h => by cases h⟩

theorem witness_DecodeAndEncodeAgree : Instr.decrypt.wellFormed = true ∧ decode 0xA = .ok .decrypt := by decide

theorem witness_DecodeTotalIllegalWordCompletesAtOnce :
    (0x10 : Word).toNat / 16 ≠ 0 ∧ ((0xA : Word).toNat / 16 = 0 ∧ (0xA : Word).toNat % 16 ≤ 0xA) ∧
    ((0xB : Word).toNat / 16 = 0 ∧ 0xA < (0xB : Word).toNat % 16) ∧
    (withEvents ready [.regWrite 0 0xB]).busy = false ∧ (withEvents ready [.regWrite 0 0xB]).schedule = [.regWrite 0 0xB] ∧
    decode 0xB = .error .reservedOp := by decide

theorem witness_StepRunsDecodedCommand :
    ((withEvents ready [.regWrite 0 8]).busy = false ∧ (withEvents ready [.regWrite 0 8]).schedule = [.regWrite 0 8] ∧
      decode 8 = .ok .run) ∧
    ((flying .run).busy = true ∧ decode (flying .run).cmd = .ok .run ∧ (flying .run).schedule = [] ∧
      (withEvents (flying .run) [.engine]).schedule = [.engine] ∧
      (withEvents (flying .run) [.gridRead 0]).schedule = [.gridRead 0] ∧
      (withEvents (flying .run) [.gridWrite 0 1]).schedule = [.gridWrite 0 1]) := by decide

theorem witness_EvaluateSelectsIdentifierBit : supportedId 51 ∧ supportedId 240 := by decide

theorem witness_StepEqualsReferenceStep : supportedTable referenceTable ∧ supportedTable (Vector.replicate 8 51) := by decide

theorem witness_ReferenceTableOrbitsHaveLengthEight :
    ∃ f : Byte → Byte, f = automatonStep .xnorAc referenceTable ∧ 1 ≤ 1 ∧ 1 ≤ 7 ∧ 7 ≤ 7 := ⟨_, rfl, by decide⟩

theorem witness_NopCompletesAtAccept :
    ready.busy = false ∧ (withEvents (flying .run) [.regWrite 0 0]).busy = true ∧
    (withEvents (flying .run) [.regWrite 0 0]).schedule = [.regWrite 0 0] := by decide

theorem witness_EvalCompletes :
    ((flying .eval).busy = true ∧ supportedId (operandByte (flying .eval))) ∧
    (ready.busy = false ∧ supportedId (operandByte ready)) ∧
    (fresh.busy = false ∧ ¬ supportedId (operandByte fresh)) := by decide

theorem witness_StepCommandCompletes :
    ((flying .step).busy = true ∧ supportedTable (flying .step).rt) ∧ (ready.busy = false ∧ supportedTable ready.rt) ∧
    (fresh.busy = false ∧ ¬ supportedTable fresh.rt) := by decide

/-- For ITER, and for ENCPIX and DECPIX, which have the same clauses. -/
theorem witness_IterCommandCompletes :
    ((flying .iter).busy = true ∧ supportedTable (flying .iter).rt) ∧
    (ready.busy = false ∧ supportedTable ready.rt ∧ ready.cycles ≠ 0) ∧
    (fresh.busy = false ∧ ¬ supportedTable fresh.rt) ∧
    ({ ready with cycles := 0 }.busy = false ∧ supportedTable { ready with cycles := 0 }.rt ∧ { ready with cycles := 0 }.cycles = 0) := by
  decide

theorem witness_EncpixCommandCompletes :
    ((flying .encpix).busy = true ∧ supportedTable (flying .encpix).rt) ∧
    (ready.busy = false ∧ supportedTable ready.rt ∧ { ready with cycles := 1 }.cycles ≠ 0) ∧
    (fresh.busy = false ∧ ¬ supportedTable fresh.rt) ∧ { ready with cycles := 0 }.cycles = 0 := by decide

theorem witness_DecpixCommandCompletes :
    ((flying .decpix).busy = true ∧ supportedTable (flying .decpix).rt) ∧
    (ready.busy = false ∧ supportedTable ready.rt ∧ { ready with cycles := 1 }.cycles ≠ 0) ∧
    (fresh.busy = false ∧ ¬ supportedTable fresh.rt) ∧ { ready with cycles := 0 }.cycles = 0 := by decide

theorem witness_MaskCommandCompletes : (flying .mask).busy = true ∧ ready.busy = false := by decide

theorem witness_UnmaskCommandCompletes : (flying .unmask).busy = true ∧ fresh.busy = false := by decide

/-- For RUN, and for ENCRYPT and DECRYPT, which have the same clauses: N = 16 fits, N = 17 does not. -/
theorem witness_RunCommandCompletes :
    ((flying .run).busy = true ∧ supportedTable (flying .run).rt) ∧
    (let s := { ready with height := 4, width := 4 }
     s.busy = false ∧ supportedTable s.rt ∧ s.cycles ≠ 0 ∧ gridSize s ≤ s.cfg.maxPixels) ∧
    (fresh.busy = false ∧ ¬ supportedTable fresh.rt) ∧
    (let s := { ready with cycles := 0 }
     s.busy = false ∧ supportedTable s.rt ∧ s.cycles = 0) ∧
    (let s := { ready with height := 17, width := 1 }
     s.busy = false ∧ supportedTable s.rt ∧ s.cycles ≠ 0 ∧ s.cfg.maxPixels < gridSize s) := by decide

theorem witness_EncryptCommandCompletes :
    ((flying .encrypt).busy = true ∧ supportedTable (flying .encrypt).rt) ∧
    (ready.busy = false ∧ supportedTable ready.rt ∧ ready.cycles ≠ 0 ∧ gridSize ready ≤ ready.cfg.maxPixels) := by decide

theorem witness_DecryptCommandCompletes :
    ((flying .decrypt).busy = true ∧ supportedTable (flying .decrypt).rt) ∧
    (ready.busy = false ∧ supportedTable ready.rt ∧ ready.cycles ≠ 0 ∧ gridSize ready ≤ ready.cfg.maxPixels) := by decide

theorem witness_AcceptFollowsTheCheckFunction :
    (withEvents ready [.regWrite 0 9]).busy = false ∧ (withEvents ready [.regWrite 0 9]).schedule = [.regWrite 0 9] := by decide

theorem witness_FailedAcceptIsPrecise :
    (withEvents fresh [.regWrite 0 2]).busy = false ∧ (withEvents fresh [.regWrite 0 2]).schedule = [.regWrite 0 2] ∧
    check (withEvents fresh [.regWrite 0 2]) 2 ≠ 0 := by decide

theorem witness_CommandsStraightAfterReset : ∃ s : State, s = State.powerOn ⟨16, .xnorAc⟩ := ⟨_, rfl⟩

theorem witness_RegReadReturnsFieldsWithoutSideEffect :
    (withEvents ready [.regRead 11]).schedule = [.regRead 11] ∧ (withEvents ready [.regRead 12]).schedule = [.regRead 12] := by decide

theorem witness_RegWriteHonouredWhenIdle :
    (withEvents ready [.regWrite 8 5]).busy = false ∧ (withEvents ready [.regWrite 8 5]).schedule = [.regWrite 8 5] := by decide

theorem witness_BusyWriteProtection :
    ((withEvents (flying .run) [.regWrite 8 5]).busy = true ∧
      (withEvents (flying .run) [.regWrite 8 5]).schedule = [.regWrite 8 5] ∧
      (8 : BitVec 6).toNat ∈ [0, 3, 4, 5, 6, 7, 8] ∧ (2 : BitVec 6).toNat ∈ [1, 2] ∧ 9 ≤ (9 : BitVec 6).toNat) ∧
    after State.busy (step (withEvents (flying .run) [.rd .status])) = some true := by decide

theorem witness_ParametersNeverChange :
    ready.cfg.valid ∧ ready.cfg.rule165 = .xnorAc ∧ { ready.cfg with rule165 := .constOne }.valid ∧
    after State.cfg (step ready) = some ready.cfg := by decide

theorem witness_GridPortHoldsWhileBusy :
    Consistent (withEvents (flying .run) [.gridRead 0]) ∧ (withEvents (flying .run) [.gridRead 0]).busy = true ∧
    (withEvents (flying .run) [.gridRead 0]).schedule = [.gridRead 0] ∧
    (withEvents (flying .run) [.gridWrite 0 1]).schedule = [.gridWrite 0 1] ∧
    (withEvents (flying .run) [.reset]).schedule = [.reset] :=
  ⟨⟨by decide, by decide, by decide, by decide, by decide, fun _ => by decide⟩, by decide⟩

theorem witness_GridWriteAndRead :
    ready.busy = false ∧ 15 < ready.cfg.maxPixels ∧ 5 < ready.cfg.maxPixels ∧
    (withEvents ready [.gridWrite 15 1]).schedule = [.gridWrite 15 1] ∧
    (withEvents ready [.gridRead 5]).schedule = [.gridRead 5] ∧ (withEvents ready [.gridRead 5]).grid.read 5 = some 0xFF := by decide

theorem witness_OutOfRangeGridAddressReadsZero :
    (12 ≤ 12 ∧ 12 < 2 ^ max 1 (Nat.clog 2 12)) ∧ (12 ≤ 15 ∧ 15 < 2 ^ max 1 (Nat.clog 2 12)) ∧
    (withEvents { ready with cfg := ⟨12, .xnorAc⟩ } [.gridRead 12]).cfg.maxPixels = 12 ∧
    (withEvents { ready with cfg := ⟨12, .xnorAc⟩ } [.gridRead 12]).schedule = [.gridRead 12] ∧
    (withEvents { ready with cfg := ⟨12, .xnorAc⟩ } [.gridWrite 15 1]).schedule = [.gridWrite 15 1] ∧ ready.busy = false := by
  have h : Nat.clog 2 12 = 4 := by decide
  rw [h]
  decide

theorem witness_PoisonReadIsAFault :
    (withEvents ready [.gridRead 6]).busy = false ∧ 6 < (withEvents ready [.gridRead 6]).cfg.maxPixels ∧
    (withEvents ready [.gridRead 6]).grid.read 6 = none ∧ (withEvents ready [.gridRead 6]).schedule = [.gridRead 6] := by decide

/-- The interrupted grid command, cell 5 inside its grid and cell 6 outside. -/
theorem witness_ResetEventClearsRegistersAndKeepsGrid :
    (withEvents (flying .run) [.reset]).schedule = [.reset] ∧ (flying .run).cmd.toNat ∈ [8, 9, 10] ∧
    (flying .run).cfg.valid ∧ 5 < gridSize (flying .run) ∧ ¬ 6 < gridSize (flying .run) := by decide

theorem witness_PowerOnStateIsIdleAndPoison :
    (9 : BitVec 6).toNat ∉ [10, 11] ∧ (12 : BitVec 6).toNat ∉ [10, 11] ∧
    (withEvents ready [.powerCycle]).schedule = [.powerCycle] := by decide

/-- The smallest, the smallest effective and the largest word of each clause. -/
theorem witness_InterruptFollowsEnableAndDone :
    (∀ w ∈ [(0 : Word), 1, 0xFFFFFFFF], (withEvents ready [.regWrite 2 w]).schedule = [.regWrite 2 w]) ∧
    (∀ w ∈ [(0 : Word), 2, 0xFFFFFFFF], (withEvents ready [.regWrite 1 w]).schedule = [.regWrite 1 w]) ∧
    (withEvents ready [.regWrite 0 0]).schedule = [.regWrite 0 0] ∧
    ready.busy = false ∧ (flying .run).busy = true ∧ (flying .run).engineIsNext = true ∧
    after State.irq (step { flying .run with ie := true }) = some true ∧ (withEvents ready [.reset]).schedule = [.reset] :=
  ⟨fun _ _ => rfl, fun _ _ => rfl, by decide⟩

/-- L2.8: IRQ_EN and STATUS take the bits of their fields only. -/
theorem test_irq_follows_bits :
    after State.irq (step (withEvents { ready with done := true } [.regWrite 2 0x80000001])) = some true ∧
    after State.irq (step (withEvents { ready with done := true, ie := true } [.regWrite 2 0xFFFFFFFE])) = some false ∧
    after State.irq (step (withEvents { ready with done := true, ie := true } [.regWrite 1 0xFFFFFFFD])) = some true := by decide

theorem witness_StepKeepsConsistency : Consistent (flying .run) ∧ (after State.busy (step (flying .run))).isSome = true :=
  ⟨flying_run_consistent, by decide⟩

theorem witness_EveryCommandInFlightCompletes :
    Consistent (flying .run) ∧ (flying .run).busy = true ∧ (flying .run).undisturbed :=
  ⟨flying_run_consistent, rfl, by constructor <;> decide⟩

theorem witness_NoErrorArisesAfterAccept :
    Consistent (flying .mask) ∧ (flying .mask).busy = true ∧ (flying .mask).engineIsNext = true :=
  ⟨flying_mask_consistent, rfl, rfl⟩

theorem witness_OnlyAPoisonReadStops :
    Consistent (withEvents ready [.gridRead 15]) ∧
    (∀ e rest, (withEvents ready [.gridRead 15]).schedule = e :: rest → e.wellFormed ready.cfg = true) := by
  refine ⟨⟨by decide, by decide, by decide, by decide, by decide, fun h => by cases h⟩, fun e rest h => ?_⟩
  obtain ⟨rfl, _⟩ := List.cons.inj h
  decide

/-- BUSY rises at an accept, and falls at a completion and at a reset. -/
theorem witness_BusyChangesOnlyByAcceptCompletionOrReset :
    after State.busy (step (withEvents ready [.regWrite 0 8])) = some true ∧ after State.busy (step (flying .run)) = some false ∧
    after State.busy (step (withEvents (flying .run) [.reset])) = some false ∧
    ready.busy = false ∧ Reference.check ready 8 = 0 ∧ (8 : Word) ≠ 0 ∧
    after State.busy (step (withEvents (flying .run) [.engine])) = some false := by decide

/-- IGN rises at a protected write, and falls at a W1C write and at a reset. -/
theorem witness_IgnIsSticky :
    after State.ign (step (withEvents (flying .run) [.regWrite 3 1])) = some true ∧
    after State.ign (step (withEvents { ready with ign := true } [.regWrite 1 8])) = some false ∧
    after State.ign (step (withEvents { ready with ign := true } [.reset])) = some false := by decide

/-- RESULT changes at a scalar completion and at a reset. -/
theorem witness_ResultWrittenOnlyByScalarCompletion :
    after State.result (step (flying .eval)) = some 1 ∧ (flying .eval).result = 0 ∧
    after State.result (step (withEvents { ready with result := 7 } [.reset])) = some 0 := by decide

theorem witness_CommandsKeepDimensionsAndOutsideCells :
    (after State.grid (exec .run (flying .run))).isSome = true ∧ gridSize (flying .run) ≤ 6 := by decide

theorem witness_GridRoundsEqualPixelRounds : (flying .run).busy = true ∧ supportedTable (flying .run).rt := by decide

/-- The same value at cell 5 of a 2x3 grid and at cell 0 of a 1x1 grid. -/
theorem witness_CrossPixelIndependence :
    Instr.encrypt ∈ [Instr.run, .encrypt, .decrypt] ∧
    (let s := flying .encrypt
     let u := { flying .encrypt with height := 1, width := 1, grid := [(0, 0xFF)] }
     s.busy = true ∧ u.busy = true ∧ s.cfg.rule165 = u.cfg.rule165 ∧ s.rt = u.rt ∧ s.cycles = u.cycles ∧
     5 < gridSize s ∧ 0 < gridSize u ∧ s.grid.read 5 = u.grid.read 0 ∧
     (after State.grid (exec .encrypt s)).isSome = true ∧ (after State.grid (exec .encrypt u)).isSome = true) := by decide

/-- The second state differs in the registers a command does not read, and in a cell above N. -/
theorem witness_WrittenValuesDependOnlyOnInputs :
    let s := flying .eval
    let u := { flying .run with ie := true, ign := true, result := 5, grid := (flying .run).grid.write 9 1 }
    s.busy = true ∧ u.busy = true ∧ s.cfg.rule165 = u.cfg.rule165 ∧ s.operand = u.operand ∧ s.rt = u.rt ∧ s.cycles = u.cycles ∧
    s.height = u.height ∧ s.width = u.width ∧ (∀ a : Fin (gridSize s), s.grid.read a = u.grid.read a) ∧
    ∀ i ∈ [Instr.eval, .nop, .encrypt],
      (after State.result (exec i s)).isSome = true ∧ (after State.result (exec i u)).isSome = true := by decide

theorem witness_RoundTripExactlyWhenStepTwiceCyclesIsIdentity :
    (flying .encrypt).busy = true ∧ supportedTable (flying .encrypt).rt ∧ 0 < gridSize (flying .encrypt) := by decide

theorem witness_ReferenceTableRoundTripsExactlyAtMultiplesOfFour :
    (flying .encrypt).busy = true ∧ (flying .encrypt).rt = referenceTable ∧ 0 < gridSize (flying .encrypt) ∧
    (flying .encrypt).cycles.toNat % 4 = 0 ∧ { flying .encrypt with cycles := 1 }.cycles.toNat % 4 ≠ 0 := by decide

theorem witness_IdleEngineTurnChangesNothing :
    ready.busy = false ∧ (withEvents ready [.engine]).schedule = [.engine] ∧ ready.schedule = [] := by decide

end Sys2Proof.Tests
end

section
/-! SUPPORT. The checks of an accept, as one function of the command, and their agreement with the spec's `check`. -/

namespace Sys2Proof.Machine

/-- The model's and the document's set of rule identifiers (41_rule_evaluator.md R130). -/
theorem supported_iff_supportedId (r : Byte) : supported r = true ↔ Reference.supportedId r := by
  unfold supported RuleId.ofByte
  split <;> simp_all [Reference.supportedId]

theorem tableSupported_iff_supportedTable (rt : Vector Byte 8) :
    tableSupported rt = true ↔ Reference.supportedTable rt := by
  simp only [tableSupported_iff, supported_iff_supportedId]

/-- RID is the low byte of OPERAND, as a number (30_encoding.md R93). -/
theorem State.operandRid_eq (s : State) : s.operandRid = BitVec.ofNat 8 (s.operand.toNat % 256) := by
  apply BitVec.eq_of_toNat_eq
  simp [State.operandRid]

/-- What an accept of the command `i` checks (60_exceptions.md R212). -/
def State.checksOf (s : State) : Instr → Option ErrorCode
  | .nop | .mask | .unmask => none
  | .eval => s.ridError
  | .step => s.tableError
  | .iter | .encpix | .decpix => s.tableError.or s.cyclesError
  | .run | .encrypt | .decrypt => (s.tableError.or s.cyclesError).or s.sizeError

/-- The ECODE an accept with these checks records (60_exceptions.md R211). -/
def codeOf (checks : Option ErrorCode) : BitVec 4 := checks.elim 0 ErrorCode.code

@[simp] theorem codeOf_none : codeOf none = 0 := rfl

theorem codeOf_ridError (s : State) : codeOf s.ridError = if ¬ supported s.operandRid then 2 else 0 := by
  cases h : supported s.operandRid <;> simp [State.ridError, h, codeOf, ErrorCode.code]

theorem codeOf_tableError_or (s : State) (later : Option ErrorCode) :
    codeOf (s.tableError.or later) = if ¬ tableSupported s.rt then 2 else codeOf later := by
  cases h : tableSupported s.rt <;> simp [State.tableError, h, codeOf, ErrorCode.code]

theorem codeOf_cyclesError_or (s : State) (later : Option ErrorCode) :
    codeOf (s.cyclesError.or later) = if s.cycles = 0 then 3 else codeOf later := by
  unfold State.cyclesError
  split <;> rfl

theorem codeOf_sizeError (s : State) :
    codeOf s.sizeError = if s.cfg.maxPixels < s.height.toNat * s.width.toNat then 4 else 0 := by
  unfold State.sizeError State.pixelCount
  split <;> rfl

/-- The checks of every command are the lines of R212's `check` that name its operation, in their order. -/
theorem check_encode (s : State) (i : Instr) : Reference.check s (encode i) = codeOf (s.checksOf i) := by
  have table := codeOf_tableError_or s none
  have cycles := codeOf_cyclesError_or s none
  have noCycles : s.cycles.toNat = 0 ↔ s.cycles = 0 := by simp [← BitVec.toNat_inj]
  rw [Option.or_none] at table cycles
  simp only [Reference.check, noCycles, ← State.operandRid_eq, ← supported_iff_supportedId,
    ← tableSupported_iff_supportedTable]
  cases i with
  | nop | mask | unmask => simp [encode, State.checksOf]
  | eval => simp [encode, State.checksOf, codeOf_ridError]
  | step => simp [encode, State.checksOf, table]
  | iter | encpix | decpix => simp [encode, State.checksOf, codeOf_tableError_or, cycles]
  | run | encrypt | decrypt =>
    simp [encode, State.checksOf, Option.or_assoc, codeOf_tableError_or, codeOf_cyclesError_or, codeOf_sizeError]

theorem encode_ne_zero {i : Instr} (h : i ≠ .nop) : encode i ≠ 0 := by
  cases i with
  | nop => exact absurd rfl h
  | eval | step | iter | mask | unmask | encpix | decpix | run | encrypt | decrypt => decide

theorem ErrorCode.code_ne_zero (e : ErrorCode) : e.code ≠ 0 := by cases e <;> decide

theorem ErrorCode.code_le_four (e : ErrorCode) : e.code.toNat ≤ 4 := by cases e <;> decide

/-- The accept of NOP completes at once (43_cipher_engine.md R170). -/
theorem execNop_accept {s : State} (idle : s.busy = false) : exec .nop s = .next (s.accept (encode .nop)).finish := by
  simp [exec, execNop, idle]

/-- The accept of every other command: in error or in flight, by its checks (43_cipher_engine.md R171). -/
theorem exec_accept {s : State} (idle : s.busy = false) {i : Instr} (h : i ≠ .nop) :
    exec i s = .next (s.issue (encode i) (s.checksOf i)) := by
  cases i with
  | nop => exact absurd rfl h
  | eval | step | iter | mask | unmask | encpix | decpix | run | encrypt | decrypt => exact State.runCommand_idle idle ..

/-- A completion keeps the grid or maps its cells below N (20_memory.md R73; 43_cipher_engine.md R186). -/
theorem exec_completion_grid {s t : State} {i : Instr} (busy : s.busy = true) (h : exec i s = .next t) :
    t.grid = s.grid ∨ ∃ f, t.grid = s.grid.mapBelow s.pixelCount f := by
  have completes {checks effect} (h : s.runCommand i checks effect = .next t) : t.grid = effect.grid :=
    Host.Outcome.next.inj ((State.runCommand_busy busy ..).symm.trans h) ▸ rfl
  have scalar {checks v} (h : s.runCommand i checks (s.setResult v) = .next t) : t.grid = s.grid :=
    completes (effect := s.setResult v) h
  cases i with
  | nop =>
    simp only [exec, execNop, busy, if_true] at h
    obtain rfl := Host.Outcome.next.inj h
    exact .inl rfl
  | eval | step | iter | mask | unmask | encpix | decpix => exact .inl (scalar h)
  | run | encrypt | decrypt => exact .inr ⟨_, completes h⟩

end Sys2Proof.Machine
end

section
/-! SUPPORT. The invariant `Consistent`: its two parts that do not speak of a command in flight, and that every operation of the
machine keeps it. -/

namespace Sys2Proof.Machine

/-- The grid part of `Consistent`: the canonical form, and no cell at `n` or above (10_state.md R40). -/
structure Memory.Fits (m : Memory) (n : Nat) : Prop where
  sorted : m.wf
  inside : ∀ c ∈ m, c.1 < n

theorem Memory.fits_nil (n : Nat) : Memory.Fits [] n := ⟨List.Pairwise.nil, fun _ hc => nomatch hc⟩

theorem Memory.Fits.write {m : Memory} {n a : Nat} (h : m.Fits n) (ha : a < n) (v : Byte) : (m.write a v).Fits n := by
  refine ⟨Memory.write_wf h.sorted a v, fun c hc => ?_⟩
  rcases Memory.mem_write hc with rfl | hold
  · exact ha
  · exact h.inside c hold

theorem Memory.Fits.mapBelow {m : Memory} {n : Nat} (h : m.Fits n) (k : Nat) (f : Byte → Byte) : (m.mapBelow k f).Fits n := by
  refine ⟨Memory.mapBelow_wf h.sorted k f, fun c hc => ?_⟩
  obtain ⟨d, hd, hindex⟩ := Memory.mem_mapBelow hc
  exact hindex ▸ h.inside d hd

theorem Memory.Fits.poisonBelow {m : Memory} {n : Nat} (h : m.Fits n) (k : Nat) : (m.poisonBelow k).Fits n :=
  ⟨Memory.poisonBelow_wf h.sorted k, fun c hc => h.inside c (Memory.mem_poisonBelow hc)⟩

/-- The outcome part of `Consistent`: ERR and ECODE agree, and ECODE is a code of 60_exceptions.md R211. -/
structure State.OutcomeCoded (s : State) : Prop where
  errIffCode : s.err = true ↔ s.ecode ≠ 0
  codeRange : s.ecode.toNat ≤ 4

/-- ERR = 0 with ECODE = 0, as after an accept that found no error and after a reset. -/
theorem State.outcomeCoded_of_noError {s : State} (herr : s.err = false) (hcode : s.ecode = 0) : s.OutcomeCoded :=
  ⟨by simp [herr, hcode], by simp [hcode]⟩

theorem State.takeError_outcomeCoded (s : State) (e : ErrorCode) : (s.takeError e).OutcomeCoded :=
  ⟨iff_of_true rfl e.code_ne_zero, e.code_le_four⟩

/-- Clearing ERR clears ECODE with it (10_state.md R27). -/
theorem State.OutcomeCoded.writeStatus {s : State} (h : s.OutcomeCoded) (w : Word) : (s.writeStatus w).OutcomeCoded := by
  have herr := s.writeStatus_err w
  have hcode := s.writeStatus_ecode w
  cases hbit : w.getLsbD 2 <;> rw [hbit] at herr hcode
  case true => exact State.outcomeCoded_of_noError (herr.trans (Bool.and_false _)) hcode
  case false =>
    have kept : (s.writeStatus w).err = s.err := herr.trans (Bool.and_true _)
    exact ⟨kept ▸ hcode ▸ h.errIffCode, hcode ▸ h.codeRange⟩

namespace Consistent

variable {s t : State}

theorem fits (h : Consistent s) : s.grid.Fits s.cfg.maxPixels := ⟨h.gridSorted, h.gridInside⟩

theorem outcomeCoded (h : Consistent s) : s.OutcomeCoded := ⟨h.errIffCode, h.codeRange⟩

/-- With nothing in flight the last clause of the invariant asks nothing. -/
theorem of_idle (capacity : s.cfg.valid) (grid : s.grid.Fits s.cfg.maxPixels) (outcome : s.OutcomeCoded)
    (idle : s.busy = false) : Consistent s :=
  ⟨capacity, grid.sorted, grid.inside, outcome.errIffCode, outcome.codeRange, fun busy => absurd (idle ▸ busy) (by decide)⟩

/-! ### Bookkeeping and IGN: the invariant does not look at these fields -/

theorem respond (h : Consistent s) (r : Response) : Consistent (s.respond r) :=
  ⟨h.capacity, h.gridSorted, h.gridInside, h.errIffCode, h.codeRange, h.inFlight⟩

theorem withSchedule (h : Consistent s) (rest : List Event) : Consistent (s.withSchedule rest) :=
  ⟨h.capacity, h.gridSorted, h.gridInside, h.errIffCode, h.codeRange, h.inFlight⟩

theorem past (h : Consistent s) (rest : List Event) : Consistent (s.past rest) := (h.respond .none).withSchedule rest

theorem setIgn (h : Consistent s) : Consistent s.setIgn :=
  ⟨h.capacity, h.gridSorted, h.gridInside, h.errIffCode, h.codeRange, h.inFlight⟩

/-! ### The register port -/

/-- While a command is in flight DONE and ERR are 0 already, so a W1C write of STATUS leaves them 0. -/
theorem writeStatus (h : Consistent s) (w : Word) : Consistent (s.writeStatus w) := by
  have outcome := h.outcomeCoded.writeStatus w
  refine ⟨h.capacity, h.gridSorted, h.gridInside, outcome.errIffCode, outcome.codeRange, fun busy => ?_⟩
  obtain ⟨hdone, herr, hcmd, hcheck⟩ := h.inFlight busy
  exact ⟨by simp [hdone], by simp [herr], hcmd, hcheck⟩

/-- An honoured write of a busy-protected register finds BUSY = 0, and no other register but STATUS is one the invariant
reads (20_memory.md R64). -/
theorem storeReg (h : Consistent s) {r : Reg} (notCmd : r ≠ .cmd) (honoured : (s.busy && r.busyProtected) = false) (w : Word) :
    Consistent (s.storeReg r w) := by
  have idle (protect : r.busyProtected = true) : s.busy = false := by simpa [protect] using honoured
  cases r with
  | cmd => exact absurd rfl notCmd
  | status => exact h.writeStatus w
  | irqEn => exact ⟨h.capacity, h.gridSorted, h.gridInside, h.errIffCode, h.codeRange, h.inFlight⟩
  | result | maxpix | features => exact h
  | cycles | height | width | rules0 | rules1 | operand =>
    exact .of_idle h.capacity h.fits ⟨h.errIffCode, h.codeRange⟩ (idle rfl)

/-! ### The two steps of a command's life -/

/-- An accept in error leaves BUSY = 0 and records a code (60_exceptions.md R213). -/
theorem acceptInError (h : Consistent s) (idle : s.busy = false) (w : Word) (e : ErrorCode) :
    Consistent ((s.accept w).takeError e) :=
  .of_idle h.capacity h.fits ((s.accept w).takeError_outcomeCoded e) idle

/-- Only a word whose checks pass goes in flight (43_cipher_engine.md R171). -/
theorem acceptInFlight (h : Consistent s) {w : Word} (hw : w ≠ 0) (checked : Reference.check s w = 0) :
    Consistent (s.accept w).setBusy :=
  have outcome : (s.accept w).setBusy.OutcomeCoded := State.outcomeCoded_of_noError rfl rfl
  ⟨h.capacity, h.gridSorted, h.gridInside, outcome.errIffCode, outcome.codeRange, fun _ => ⟨rfl, rfl, hw, checked⟩⟩

theorem accepted (h : Consistent s) (idle : s.busy = false) {i : Instr} (hexec : exec i s = .next t) : Consistent t := by
  by_cases hnop : i = .nop
  · subst hnop
    obtain rfl := Host.Outcome.next.inj ((execNop_accept idle).symm.trans hexec)
    exact .of_idle h.capacity h.fits (State.outcomeCoded_of_noError rfl rfl) rfl
  · obtain rfl := Host.Outcome.next.inj ((exec_accept idle hnop).symm.trans hexec)
    cases hchecks : s.checksOf i with
    | some e => exact h.acceptInError idle (encode i) e
    | none => exact h.acceptInFlight (encode_ne_zero hnop) (by rw [check_encode, hchecks]; rfl)

theorem completed (h : Consistent s) (busy : s.busy = true) {i : Instr} (hexec : exec i s = .next t) : Consistent t := by
  obtain ⟨hidle, -, -, herr, hcode⟩ := exec_busy busy hexec
  have hcfg := (exec_frame hexec).cfg
  have hgrid : t.grid.Fits s.cfg.maxPixels := by
    rcases exec_completion_grid busy hexec with hg | ⟨f, hg⟩
    · exact hg ▸ h.fits
    · exact hg ▸ h.fits.mapBelow s.pixelCount f
  exact .of_idle (hcfg ▸ h.capacity) (hcfg ▸ hgrid) ⟨by rw [herr, hcode]; exact h.errIffCode, hcode ▸ h.codeRange⟩ hidle

theorem executed (h : Consistent s) {i : Instr} (hexec : exec i s = .next t) : Consistent t := by
  cases hb : s.busy with
  | false => exact h.accepted hb hexec
  | true => exact h.completed hb hexec

/-! ### The grid port and the reset events -/

theorem gridRead (h : Consistent s) {a : Nat} (hread : s.gridRead a = .next t) : Consistent t := by
  rcases s.gridRead_cases a with ⟨-, ho⟩ | ⟨-, ho⟩ | ⟨-, v, -, ho⟩ | ⟨-, -, ho⟩
  · exact nomatch ho.symm.trans hread
  · exact Host.Outcome.next.inj (ho.symm.trans hread) ▸ h.respond _
  · exact Host.Outcome.next.inj (ho.symm.trans hread) ▸ h.respond _
  · exact nomatch ho.symm.trans hread

theorem gridWrite (h : Consistent s) (idle : s.busy = false) {a : Nat} {v : Byte} (hwrite : s.gridWrite a v = .next t) :
    Consistent t := by
  rcases s.gridWrite_cases a v with ⟨-, ho⟩ | ⟨-, ho⟩ | ⟨ha, ho⟩
  · exact nomatch ho.symm.trans hwrite
  · exact Host.Outcome.next.inj (ho.symm.trans hwrite) ▸ h
  · obtain rfl := Host.Outcome.next.inj (ho.symm.trans hwrite)
    exact .of_idle h.capacity (h.fits.write ha v) ⟨h.errIffCode, h.codeRange⟩ idle

theorem hardReset (h : Consistent s) : Consistent s.hardReset := by
  refine .of_idle h.capacity ?_ (State.outcomeCoded_of_noError rfl rfl) rfl
  rw [State.hardReset_grid]
  split
  · exact h.fits.poisonBelow s.pixelCount
  · exact h.fits

theorem powerCycle (h : Consistent s) : Consistent s.powerCycle :=
  .of_idle h.capacity (Memory.fits_nil _) (State.outcomeCoded_of_noError rfl rfl) rfl

end Consistent

/-! ### Actions -/

/-- What the machine answers for an action. -/
def Action.answer : Action → Host.Outcome State Fault Refusal
  | .run i t => exec i t
  | .done o => o

theorem step_eq_answer (s : State) : step s = s.nextAction.answer := rfl

namespace Consistent

variable {s t : State}

theorem engineTurn (h : Consistent s) (hanswer : s.engineTurn.answer = .next t) : Consistent t := by
  rcases s.engineTurn_cases with ⟨-, ha⟩ | ⟨-, i, -, ha⟩ | ⟨-, e, -, ha⟩ <;> rw [ha] at hanswer
  · exact Host.Outcome.next.inj hanswer ▸ h
  · exact h.executed hanswer
  · exact nomatch hanswer

theorem commandWrite (h : Consistent s) (idle : s.busy = false) {w : Word} (hanswer : (s.commandWrite w).answer = .next t) :
    Consistent t := by
  rcases s.commandWrite_cases w with ⟨i, -, ha⟩ | ⟨e, -, ha⟩ <;> rw [ha] at hanswer
  · exact h.executed hanswer
  · exact Host.Outcome.next.inj hanswer ▸ h.acceptInError idle w .illegalCmd

theorem regWrite (h : Consistent s) {i : BitVec 6} {w : Word} (hanswer : (s.regWrite i w).answer = .next t) :
    Consistent t := by
  rcases s.regWrite_cases i w with ⟨-, ha⟩ | ⟨r, -, -, -, ha⟩ | ⟨-, idle, ha⟩ | ⟨r, -, notCmd, honoured, ha⟩ <;>
    rw [ha] at hanswer
  · exact Host.Outcome.next.inj hanswer ▸ h
  · exact Host.Outcome.next.inj hanswer ▸ h.setIgn
  · exact h.commandWrite idle hanswer
  · exact Host.Outcome.next.inj hanswer ▸ h.storeReg notCmd honoured w

/-- Whatever the next step can be, it keeps the invariant. -/
theorem stepCase (h : Consistent s) {action : Action} (hcase : StepCase s action) (hanswer : action.answer = .next t) :
    Consistent t := by
  cases hcase with
  | engine rest => exact (h.past rest).engineTurn hanswer
  | regRead i rest => exact Host.Outcome.next.inj hanswer ▸ (h.past rest).respond _
  | regWrite i w rest => exact (h.past rest).regWrite hanswer
  | gridRead a rest => exact (h.past rest).gridRead hanswer
  | gridWrite a v rest idle => exact (h.past rest).gridWrite idle hanswer
  | reset rest => exact Host.Outcome.next.inj hanswer ▸ (h.past rest).hardReset
  | powerCycle rest => exact Host.Outcome.next.inj hanswer ▸ (h.past rest).powerCycle

end Consistent

/-- Settles O46: by the cases of a step, each of which keeps `Consistent`. -/
theorem stepKeepsConsistency : Obligations.StepKeepsConsistency := fun s _ h hstep =>
  h.stepCase s.nextAction_case ((step_eq_answer s).symm.trans hstep)

end Sys2Proof.Machine
end

section
/-! SUPPORT. The packing of the rule table into RULES0 and RULES1 (10_state.md R30 to R32). -/

namespace Sys2Proof.Machine

open Sys2Proof.Reference

/-- A byte cut out of a word is its quotient by the byte's weight, modulo 256. -/
theorem extractLsb'_eq_wordByte (w : Word) (k : Nat) : w.extractLsb' (8 * k) 8 = wordByte w k := by
  apply BitVec.eq_of_toNat_eq
  simp [wordByte, Nat.shiftRight_eq_div_pow]

/-- A word is its four bytes, the highest first. -/
theorem word_bytes_append (w : Word) :
    w.extractLsb' 24 8 ++ w.extractLsb' 16 8 ++ w.extractLsb' 8 8 ++ w.extractLsb' 0 8 = w := by
  rw [BitVec.extractLsb'_append_extractLsb'_eq_extractLsb' (start₂ := 24) (start₁ := 16) (len₁ := 8) rfl,
    BitVec.extractLsb'_append_extractLsb'_eq_extractLsb' (start₂ := 16) (start₁ := 8) (len₁ := 8) rfl,
    BitVec.extractLsb'_append_extractLsb'_eq_extractLsb' (start₂ := 8) (start₁ := 0) (len₁ := 8) rfl]
  exact BitVec.extractLsb'_eq_self

@[simp] theorem rules0Word_setRules0 (rt : Vector Byte 8) (w : Word) : rules0Word (setRules0 rt w) = w := word_bytes_append w

@[simp] theorem rules1Word_setRules1 (rt : Vector Byte 8) (w : Word) : rules1Word (setRules1 rt w) = w := word_bytes_append w

theorem setRules0_low (rt : Vector Byte 8) (w : Word) (k : Fin 4) : (setRules0 rt w)[k.val] = wordByte w k := by
  rw [← extractLsb'_eq_wordByte]
  fin_cases k <;> rfl

theorem setRules0_high (rt : Vector Byte 8) (w : Word) (k : Fin 4) : (setRules0 rt w)[k.val + 4] = rt[k.val + 4] := by
  fin_cases k <;> rfl

theorem setRules1_high (rt : Vector Byte 8) (w : Word) (k : Fin 4) : (setRules1 rt w)[k.val + 4] = wordByte w k := by
  rw [← extractLsb'_eq_wordByte]
  fin_cases k <;> rfl

theorem setRules1_low (rt : Vector Byte 8) (w : Word) (k : Fin 4) : (setRules1 rt w)[k.val] = rt[k.val] := by
  fin_cases k <;> rfl

/-- The two words of 10_state.md R32 hold the document's reference table, whatever table stood before. -/
theorem setRules_referenceTable (rt : Vector Byte 8) :
    setRules1 (setRules0 rt 0x66666666) 0x99F05633 = referenceTable := rfl

/-- Settles O36: the stores are `setRules0` and `setRules1`, which cut the word into its bytes. -/
theorem ruleTablePacking : Obligations.RuleTablePacking :=
  ⟨fun s w k => ⟨setRules0_low s.rt w k, setRules0_high s.rt w k, setRules1_high s.rt w k, setRules1_low s.rt w k⟩,
    fun s w => ⟨rules0Word_setRules0 s.rt w, rules1Word_setRules1 s.rt w⟩, fun s => setRules_referenceTable s.rt⟩

end Sys2Proof.Machine
end

section
/-! SUPPORT. The decoder read by numbers, and the accept of a command word as the reference accept of R171. -/

namespace Sys2Proof.Machine

open Sys2Proof.Reference

theorem reservedBits_zero_iff (w : Word) : w.extractLsb 31 4 = 0 ↔ w.toNat / 16 = 0 := by
  simp [← BitVec.toNat_inj, Nat.shiftRight_eq_div_pow]
  omega

theorem op_toNat (w : Word) : (w.extractLsb 3 0).toNat = w.toNat % 16 := by simp

theorem decodeOp_ok {op : BitVec 4} {i : Instr} (h : decodeOp op = .ok i) : op.toNat = (encode i).toNat := by
  unfold decodeOp at h
  split at h <;> cases h <;> assumption

theorem decodeOp_error {op : BitVec 4} {e : IllegalWord} (h : decodeOp op = .error e) : 0xA < op.toNat := by
  unfold decodeOp at h
  split at h <;> simp at h
  grind

/-- A legal word is its command's encoding (30_encoding.md R91, R92). -/
theorem eq_encode_of_decode {w : Word} {i : Instr} (h : decode w = .ok i) : w = encode i := by
  unfold decode at h
  split at h
  · exact nomatch h
  next hreserved =>
    have hhigh := (reservedBits_zero_iff w).mp (not_not.mp hreserved)
    have hop := op_toNat w ▸ decodeOp_ok h
    apply BitVec.eq_of_toNat_eq
    omega

/-- An ILLEGAL word fails the first line of R212's check (30_encoding.md R92). -/
theorem check_of_decode_error {w : Word} {e : IllegalWord} (h : decode w = .error e) (s : State) : check s w = 1 := by
  refine if_pos (?_ : w.toNat / 16 ≠ 0 ∨ 0xA < w.toNat % 16)
  unfold decode at h
  split at h
  next hreserved => exact .inl (mt (reservedBits_zero_iff w).mpr hreserved)
  · exact .inr (op_toNat w ▸ decodeOp_error h)

theorem accept_inFlight {s : State} {w : Word} (hcheck : check s w = 0) (hw : w ≠ 0) : Reference.accept s w = inFlight s w := by
  rw [Reference.accept, if_neg (not_not.mpr hcheck), if_neg hw]

/-- What every accept leaves alone, whether it fails or not, and that CMD takes the word (43_cipher_engine.md R171). -/
theorem accept_frame (s : State) (w : Word) :
    (Reference.accept s w).cmd = w ∧ (Reference.accept s w).cfg = s.cfg ∧ (Reference.accept s w).ign = s.ign ∧
    (Reference.accept s w).result = s.result := by
  unfold Reference.accept
  split
  · exact ⟨rfl, rfl, rfl, rfl⟩
  · split <;> exact ⟨rfl, rfl, rfl, rfl⟩

/-- BUSY rises at an accept only where the checks pass and the word is not NOP's. -/
theorem accept_busy_cases (s : State) (w : Word) : (Reference.accept s w).busy = s.busy ∨ check s w = 0 ∧ w ≠ 0 := by
  unfold Reference.accept
  split
  · exact .inl rfl
  next hcheck =>
    split
    · exact .inl rfl
    next hw => exact .inr ⟨not_not.mp hcheck, hw⟩

/-- The accept of a legal word is the reference accept: NOP completes, another command is in error or in flight by its checks. -/
theorem exec_accept_eq {s : State} (idle : s.busy = false) (i : Instr) : exec i s = .next (Reference.accept s (encode i)) := by
  have hcheck : check s (encode i) = codeOf (s.checksOf i) := check_encode s i
  by_cases hnop : i = .nop
  · subst hnop
    replace hcheck : check s (encode .nop) = 0 := hcheck
    have haccept : Reference.accept s (encode .nop) = (s.accept (encode .nop)).finish := by
      unfold Reference.accept
      rw [if_neg (not_not.mpr hcheck), if_pos (by decide)]
      simp [State.finish, State.accept, State.storeReg, State.clearOutcome, idle]
    rw [execNop_accept idle, haccept]
  · rw [exec_accept idle hnop]
    cases hchecks : s.checksOf i <;> rw [hchecks] at hcheck
    case none => rw [accept_inFlight hcheck (encode_ne_zero hnop)]; rfl
    case some e =>
      have hcode : check s (encode i) = e.code := hcheck
      rw [Reference.accept, hcode, if_pos e.code_ne_zero]
      rfl

/-- A CMD write while BUSY = 0 is the reference accept of its word, legal or not (43_cipher_engine.md R171). -/
theorem State.commandWrite_answer {s : State} (idle : s.busy = false) (w : Word) :
    (s.commandWrite w).answer = .next (Reference.accept s w) := by
  rcases s.commandWrite_cases w with ⟨i, hw, ha⟩ | ⟨e, hw, ha⟩ <;> rw [ha]
  · rw [eq_encode_of_decode hw]
    exact exec_accept_eq idle i
  · have hcheck := check_of_decode_error hw s
    rw [Reference.accept, hcheck, if_pos (by decide)]
    rfl

end Sys2Proof.Machine
end

section
/-! SUPPORT. The register map, and what one step that answers a next state has done, said once in terms of the states before
and after it. -/

namespace Sys2Proof.Machine

open Sys2Proof.Reference

@[simp] theorem Reg.ofIndex_index (r : Reg) : Reg.ofIndex r.index = some r := by cases r <;> rfl

theorem Reg.eq_index_of_ofIndex {i : BitVec 6} {r : Reg} (h : Reg.ofIndex i = some r) : i = r.index := by
  unfold Reg.ofIndex at h
  apply BitVec.eq_of_toNat_eq
  split at h <;> cases h <;> assumption

/-- The busy-protected registers by their indices (20_memory.md R64). -/
theorem Reg.busyProtected_iff (r : Reg) : r.busyProtected = true ↔ r.index.toNat ∈ [0, 3, 4, 5, 6, 7, 8] := by
  cases r <;> decide

theorem Reg.exists_of_protectedIndex {i : BitVec 6} (h : i.toNat ∈ [0, 3, 4, 5, 6, 7, 8]) :
    ∃ r : Reg, i = r.index ∧ r.busyProtected = true := by
  have named (r : Reg) (hr : i.toNat = r.index.toNat) (protect : r.busyProtected = true) :
      ∃ r : Reg, i = r.index ∧ r.busyProtected = true := ⟨r, BitVec.eq_of_toNat_eq hr, protect⟩
  simp only [List.mem_cons, List.not_mem_nil, or_false] at h
  rcases h with h | h | h | h | h | h | h
  · exact named .cmd h rfl
  · exact named .cycles h rfl
  · exact named .height h rfl
  · exact named .width h rfl
  · exact named .rules0 h rfl
  · exact named .rules1 h rfl
  · exact named .operand h rfl

/-- A write of a defined register. -/
theorem State.regWrite_index (s : State) (r : Reg) (w : Word) :
    s.regWrite r.index w =
      if s.busy && r.busyProtected then .done (.next s.setIgn)
      else if r = .cmd then s.commandWrite w
      else .done (.next (s.storeReg r w)) := by
  simp [State.regWrite]

/-- IGN is a field of STATUS and of no other register (10_state.md R24, R28). -/
theorem State.storeReg_ign (s : State) {r : Reg} (h : r ≠ .status) (w : Word) : (s.storeReg r w).ign = s.ign := by
  cases r with
  | status => exact absurd rfl h
  | cmd | irqEn | cycles | height | width | rules0 | rules1 | operand | result | maxpix | features => rfl

/-- The engine's turn with BUSY = 1 completes the command that CMD encodes. -/
theorem State.engineTurn_completes {s t : State} (busy : s.busy = true) (h : s.engineTurn.answer = .next t) :
    ∃ i, s.cmd = encode i ∧ exec i s = .next t := by
  rcases s.engineTurn_cases with ⟨idle, -⟩ | ⟨-, i, hword, ha⟩ | ⟨-, e, -, ha⟩
  · exact absurd (idle.symm.trans busy) (by decide)
  · exact ⟨i, eq_encode_of_decode hword, (congrArg Action.answer ha).symm.trans h⟩
  · rw [ha] at h
    exact nomatch h

/-- A completion writes RESULT only where the command is scalar (10_state.md R39; 43_cipher_engine.md R188 to R190). -/
theorem exec_completion_result {s t : State} {i : Instr} (busy : s.busy = true) (h : exec i s = .next t) :
    t.result = s.result ∨ (encode i).toNat ∈ [1, 2, 3, 4, 5, 6, 7] := by
  have gridCommand {checks f} (h : s.runCommand i checks (s.mapGrid f) = .next t) : t.result = s.result :=
    Host.Outcome.next.inj ((State.runCommand_busy busy ..).symm.trans h) ▸ rfl
  cases i with
  | nop =>
    simp only [exec, execNop, busy, if_true] at h
    exact .inl (Host.Outcome.next.inj h ▸ rfl)
  | eval | step | iter | mask | unmask | encpix | decpix => exact .inr (by decide)
  | run | encrypt | decrypt => exact .inl (gridCommand h)

/-- What a step from `s` that answered the next state did. -/
inductive Transition (s : State) : State → Prop
  /-- no register, parameter or flag changed: an idle engine turn, a register read, a write to a reserved index, or a grid
  transaction -/
  | quiet (rest : List Event) (g : Memory) (r : Response) : Transition s (((s.past rest).setGrid g).respond r)
  /-- the engine completed the command in flight (43_cipher_engine.md R172) -/
  | completion (rest : List Event) (i : Instr) {t : State} (turn : s.engineIsNext = true) (busy : s.busy = true)
      (word : s.cmd = encode i) (completes : exec i (s.past rest) = .next t) : Transition s t
  /-- a write to a protected register while BUSY = 1 (20_memory.md R64) -/
  | ignoredWrite (r : Reg) (w : Word) (rest : List Event) (head : s.schedule = .regWrite r.index w :: rest)
      (busy : s.busy = true) (protect : r.busyProtected = true) : Transition s (s.past rest).setIgn
  /-- a CMD write while BUSY = 0 (43_cipher_engine.md R171) -/
  | accept (w : Word) (rest : List Event) (head : s.schedule = .regWrite 0 w :: rest) (idle : s.busy = false) :
      Transition s (Reference.accept (s.past rest) w)
  /-- an honoured write of a register that is not CMD (20_memory.md R63) -/
  | stored (r : Reg) (w : Word) (rest : List Event) (head : s.schedule = .regWrite r.index w :: rest) (notCmd : r ≠ .cmd) :
      Transition s ((s.past rest).storeReg r w)
  | reset (rest : List Event) (head : s.schedule = .reset :: rest) : Transition s (s.past rest).hardReset
  | powerCycle (rest : List Event) (head : s.schedule = .powerCycle :: rest) : Transition s (s.past rest).powerCycle

namespace Transition

variable {s t : State}

theorem of_engineTurn {rest : List Event} (turn : s.engineIsNext = true) (h : (s.past rest).engineTurn.answer = .next t) :
    Transition s t := by
  cases hb : s.busy with
  | false =>
    have hidle : (s.past rest).engineTurn = .done (.next (s.past rest)) := by simp [State.engineTurn, hb]
    exact Host.Outcome.next.inj ((congrArg Action.answer hidle).symm.trans h) ▸ quiet rest s.grid .none
  | true =>
    obtain ⟨i, hword, hexec⟩ := State.engineTurn_completes (s := s.past rest) hb h
    exact completion rest i turn hb hword hexec

theorem of_regWrite {i : BitVec 6} {w : Word} {rest : List Event} (head : s.schedule = .regWrite i w :: rest)
    (h : ((s.past rest).regWrite i w).answer = .next t) : Transition s t := by
  rcases (s.past rest).regWrite_cases i w with ⟨-, ha⟩ | ⟨r, hr, busy, protect, ha⟩ | ⟨hr, idle, ha⟩ | ⟨r, hr, notCmd, -, ha⟩ <;>
    rw [ha] at h
  · exact Host.Outcome.next.inj h ▸ quiet rest s.grid .none
  · obtain rfl := Reg.eq_index_of_ofIndex hr
    exact Host.Outcome.next.inj h ▸ ignoredWrite r w rest head busy protect
  · obtain rfl := Reg.eq_index_of_ofIndex hr
    have haccept := Host.Outcome.next.inj ((State.commandWrite_answer idle w).symm.trans h)
    exact haccept ▸ Transition.accept w rest head idle
  · obtain rfl := Reg.eq_index_of_ofIndex hr
    exact Host.Outcome.next.inj h ▸ stored r w rest head notCmd

theorem of_gridRead {a : Nat} {rest : List Event} (h : (s.past rest).gridRead a = .next t) : Transition s t := by
  rcases (s.past rest).gridRead_cases a with ⟨-, ho⟩ | ⟨-, ho⟩ | ⟨-, v, -, ho⟩ | ⟨-, -, ho⟩
  · exact nomatch ho.symm.trans h
  · exact Host.Outcome.next.inj (ho.symm.trans h) ▸ quiet rest s.grid _
  · exact Host.Outcome.next.inj (ho.symm.trans h) ▸ quiet rest s.grid _
  · exact nomatch ho.symm.trans h

theorem of_gridWrite {a : Nat} {v : Byte} {rest : List Event} (h : (s.past rest).gridWrite a v = .next t) :
    Transition s t := by
  rcases (s.past rest).gridWrite_cases a v with ⟨-, ho⟩ | ⟨-, ho⟩ | ⟨-, ho⟩
  · exact nomatch ho.symm.trans h
  · exact Host.Outcome.next.inj (ho.symm.trans h) ▸ quiet rest s.grid .none
  · exact Host.Outcome.next.inj (ho.symm.trans h) ▸ quiet rest (s.grid.write a v) .none

/-- Inversion of a step that answers a next state. -/
theorem of_step (h : step s = .next t) : Transition s t := by
  have hcase := s.nextAction_case
  rw [step_eq_answer] at h
  generalize s.nextAction = action at h hcase
  cases hcase with
  | engine rest turn => exact of_engineTurn turn h
  | regRead i rest => exact Host.Outcome.next.inj h ▸ quiet rest s.grid _
  | regWrite i w rest head => exact of_regWrite head h
  | gridRead a rest => exact of_gridRead h
  | gridWrite a v rest => exact of_gridWrite h
  | reset rest head => exact Host.Outcome.next.inj h ▸ reset rest head
  | powerCycle rest head => exact Host.Outcome.next.inj h ▸ powerCycle rest head

end Transition

/-! ### The event at the head of the schedule -/

section

variable {s : State} {rest : List Event}

theorem step_of_engine (head : s.schedule = .engine :: rest) : step s = (s.past rest).engineTurn.answer := by
  simp [step_eq_answer, State.nextAction, head]

theorem step_of_regWrite {i : BitVec 6} {w : Word} (head : s.schedule = .regWrite i w :: rest) :
    step s = ((s.past rest).regWrite i w).answer := by
  simp [step_eq_answer, State.nextAction, head]

theorem step_of_reset (head : s.schedule = .reset :: rest) : step s = .next (s.past rest).hardReset := by
  simp [step_eq_answer, State.nextAction, head, Action.answer]

theorem step_of_cmdWrite {w : Word} (idle : s.busy = false) (head : s.schedule = .regWrite 0 w :: rest) :
    step s = .next (Reference.accept (s.past rest) w) :=
  calc step s
    _ = ((s.past rest).regWrite Reg.cmd.index w).answer := step_of_regWrite head
    _ = ((s.past rest).commandWrite w).answer := by simp [State.regWrite_index, idle]
    _ = .next (Reference.accept (s.past rest) w) := State.commandWrite_answer (s := s.past rest) idle w

theorem step_of_statusWrite {w : Word} (head : s.schedule = .regWrite 1 w :: rest) :
    step s = .next ((s.past rest).writeStatus w) :=
  calc step s
    _ = ((s.past rest).regWrite Reg.status.index w).answer := step_of_regWrite head
    _ = .next ((s.past rest).storeReg .status w) := by simp [State.regWrite_index, Reg.busyProtected, Action.answer]

theorem step_of_protectedWrite {i : BitVec 6} {w : Word} (busy : s.busy = true) (head : s.schedule = .regWrite i w :: rest)
    (hi : i.toNat ∈ [0, 3, 4, 5, 6, 7, 8]) : step s = .next (s.past rest).setIgn := by
  obtain ⟨r, rfl, protect⟩ := Reg.exists_of_protectedIndex hi
  rw [step_of_regWrite head]
  simp [State.regWrite_index, busy, protect, Action.answer]

end

end Sys2Proof.Machine
end

section
/-! SUPPORT. What a step can do to the parameters, to BUSY, to IGN and to RESULT, and the statements that say so. -/

namespace Sys2Proof.Machine

open Sys2Proof.Reference

namespace Transition

variable {s t : State}

/-- The parameters are those of the build (00_scope.md R9, R10). -/
theorem cfg_eq (h : Transition s t) : t.cfg = s.cfg := by
  cases h with
  | quiet | ignoredWrite | reset | powerCycle => rfl
  | completion rest i _ _ _ completes => exact (exec_frame completes).cfg
  | accept w rest =>
    obtain ⟨-, hcfg, -, -⟩ := accept_frame (s.past rest) w
    exact hcfg
  | stored r w rest _ notCmd =>
    obtain ⟨hcfg, -⟩ := (s.past rest).storeReg_frame r w notCmd
    exact hcfg

/-- BUSY stays, rises at the accept of a word that passes its checks, or falls at a completion or a reset (10_state.md R25). -/
theorem busy_cases (h : Transition s t) :
    t.busy = s.busy ∨
    (∃ w rest, s.schedule = .regWrite 0 w :: rest ∧ check s w = 0 ∧ w ≠ 0 ∧ t.busy = true ∧ t.cmd = w) ∨
    (s.engineIsNext = true ∧ t.busy = false ∧ t.done = true) ∨
    (t.busy = false ∧ ∃ rest, s.schedule = .reset :: rest ∨ s.schedule = .powerCycle :: rest) := by
  cases h with
  | quiet | ignoredWrite => exact .inl rfl
  | completion rest i turn busy _ completes =>
    obtain ⟨hbusy, hdone, -⟩ := exec_busy (s := s.past rest) busy completes
    exact .inr (.inr (.inl ⟨turn, hbusy, hdone⟩))
  | accept w rest head =>
    rcases accept_busy_cases (s.past rest) w with hbusy | ⟨hcheck, hw⟩
    · exact .inl hbusy
    · rw [accept_inFlight hcheck hw]
      exact .inr (.inl ⟨w, rest, head, hcheck, hw, rfl, rfl⟩)
  | stored r w rest _ notCmd =>
    obtain ⟨-, -, hbusy, -⟩ := (s.past rest).storeReg_frame r w notCmd
    exact .inl hbusy
  | reset rest head => exact .inr (.inr (.inr ⟨rfl, rest, .inl head⟩))
  | powerCycle rest head => exact .inr (.inr (.inr ⟨rfl, rest, .inr head⟩))

/-- IGN stays, rises at an ignored busy write, or falls at a W1C write of STATUS or a reset (10_state.md R28). -/
theorem ign_cases (h : Transition s t) :
    t.ign = s.ign ∨
    (t.ign = true ∧ s.busy = true ∧ ∃ i w rest, s.schedule = .regWrite i w :: rest ∧ i.toNat ∈ [0, 3, 4, 5, 6, 7, 8]) ∨
    (t.ign = false ∧ ∃ w rest, s.schedule = .regWrite 1 w :: rest ∧ w.getLsbD 3 = true) ∨
    (t.ign = false ∧ ∃ rest, s.schedule = .reset :: rest ∨ s.schedule = .powerCycle :: rest) := by
  cases h with
  | quiet => exact .inl rfl
  | completion rest i _ _ _ completes => exact .inl (exec_frame completes).ign
  | ignoredWrite r w rest head busy protect =>
    exact .inr (.inl ⟨rfl, busy, r.index, w, rest, head, r.busyProtected_iff.mp protect⟩)
  | accept w rest =>
    obtain ⟨-, -, hign, -⟩ := accept_frame (s.past rest) w
    exact .inl hign
  | stored r w rest head =>
    by_cases hstatus : r = .status
    · subst hstatus
      have hign := (s.past rest).writeStatus_ign w
      cases hbit : w.getLsbD 3 <;> rw [hbit] at hign
      case true => exact .inr (.inr (.inl ⟨hign.trans (Bool.and_false _), w, rest, head, hbit⟩))
      case false => exact .inl (hign.trans (Bool.and_true _))
    · exact .inl ((s.past rest).storeReg_ign hstatus w)
  | reset rest head => exact .inr (.inr (.inr ⟨rfl, rest, .inl head⟩))
  | powerCycle rest head => exact .inr (.inr (.inr ⟨rfl, rest, .inr head⟩))

/-- RESULT stays, or the step completed a scalar command or was a reset (10_state.md R39). -/
theorem result_cases (h : Transition s t) :
    t.result = s.result ∨
    (s.busy = true ∧ s.engineIsNext = true ∧ s.cmd.toNat ∈ [1, 2, 3, 4, 5, 6, 7]) ∨
    ∃ rest, s.schedule = .reset :: rest ∨ s.schedule = .powerCycle :: rest := by
  cases h with
  | quiet | ignoredWrite => exact .inl rfl
  | completion rest i turn busy word completes =>
    rcases exec_completion_result (s := s.past rest) busy completes with hresult | hscalar
    · exact .inl hresult
    · exact .inr (.inl ⟨busy, turn, word ▸ hscalar⟩)
  | accept w rest =>
    obtain ⟨-, -, -, hresult⟩ := accept_frame (s.past rest) w
    exact .inl hresult
  | stored r w rest _ notCmd =>
    obtain ⟨-, -, -, hresult, -⟩ := (s.past rest).storeReg_frame r w notCmd
    exact .inl hresult
  | reset rest head => exact .inr (.inr ⟨rest, .inl head⟩)
  | powerCycle rest head => exact .inr (.inr ⟨rest, .inr head⟩)

end Transition

/-- MAXPIX has room for every legal capacity (00_scope.md R9, 10_state.md R33). -/
theorem State.readReg_maxpix_toNat {s : State} (legal : s.cfg.valid) : (s.readReg .maxpix).toNat = s.cfg.maxPixels := by
  obtain ⟨-, hmax⟩ := legal
  exact Nat.mod_eq_of_lt (by omega)

/-- Settles O37: no transition changes the parameters, and the two registers show them. -/
theorem parametersNeverChange : Obligations.ParametersNeverChange := by
  refine ⟨fun s t h => (Transition.of_step h).cfg_eq, fun s legal => ⟨State.readReg_maxpix_toNat legal, ?_, ?_, ?_⟩⟩
  · intro hmode
    simp [State.readReg, hmode]
  · intro hmode
    simp [State.readReg, hmode]
  · exact fun w => ⟨rfl, rfl⟩

/-- Settles O50: the first two clauses are the cases of BUSY, the last three the step of each head event. -/
theorem busyChangesOnlyByAcceptCompletionOrReset : Obligations.BusyChangesOnlyByAcceptCompletionOrReset := by
  intro s t h
  refine ⟨fun idle busy => ?rises, fun busy idle => ?falls, fun w rest idle head hcheck hw => ?accept,
    fun rest busy head => ?engine, fun rest head => ?reset⟩
  case rises =>
    rcases (Transition.of_step h).busy_cases with same | ⟨w, rest, head, hcheck, hw, -, hcmd⟩ | ⟨-, fell, -⟩ | ⟨fell, -⟩
    · simp [same, idle] at busy
    · exact ⟨w, rest, head, hcheck, hw, hcmd⟩
    · simp [fell] at busy
    · simp [fell] at busy
  case falls =>
    rcases (Transition.of_step h).busy_cases with same | ⟨_, _, -, -, -, rose, -⟩ | ⟨turn, -, hdone⟩ | ⟨-, hreset⟩
    · simp [same, busy] at idle
    · simp [rose] at idle
    · exact .inl ⟨turn, hdone⟩
    · exact .inr hreset
  case accept =>
    rw [← Host.Outcome.next.inj ((step_of_cmdWrite idle head).symm.trans h), accept_inFlight (s := s.past rest) hcheck hw]
    rfl
  case engine =>
    obtain ⟨i, -, hexec⟩ := State.engineTurn_completes (s := s.past rest) busy ((step_of_engine head).symm.trans h)
    obtain ⟨hbusy, hdone, -⟩ := exec_busy (s := s.past rest) busy hexec
    exact ⟨hbusy, hdone⟩
  case reset => exact Host.Outcome.next.inj ((step_of_reset head).symm.trans h) ▸ rfl

/-- Settles O51: the first two clauses are the cases of IGN, the last three the step of each head event. -/
theorem ignIsSticky : Obligations.IgnIsSticky := by
  intro s t h
  refine ⟨fun wasClear nowSet => ?rises, fun wasSet nowClear => ?falls, fun i w rest busy head hi => ?ignored,
    fun w rest head hbit => ?w1c, fun rest head => ?reset⟩
  case rises =>
    rcases (Transition.of_step h).ign_cases with same | ⟨-, hignored⟩ | ⟨fell, -⟩ | ⟨fell, -⟩
    · simp [same, wasClear] at nowSet
    · exact hignored
    · simp [fell] at nowSet
    · simp [fell] at nowSet
  case falls =>
    rcases (Transition.of_step h).ign_cases with same | ⟨rose, -⟩ | ⟨-, hw1c⟩ | ⟨-, hreset⟩
    · simp [same, wasSet] at nowClear
    · simp [rose] at nowClear
    · exact .inl hw1c
    · exact .inr hreset
  case ignored => exact Host.Outcome.next.inj ((step_of_protectedWrite busy head hi).symm.trans h) ▸ rfl
  case w1c =>
    rw [← Host.Outcome.next.inj ((step_of_statusWrite head).symm.trans h)]
    simp [hbit]
  case reset => exact Host.Outcome.next.inj ((step_of_reset head).symm.trans h) ▸ rfl

/-- Settles O52: of the cases of RESULT, the one where it stays is shut out. -/
theorem resultWrittenOnlyByScalarCompletion : Obligations.ResultWrittenOnlyByScalarCompletion := fun _ _ h changed =>
  (Transition.of_step h).result_cases.resolve_left changed

end Sys2Proof.Machine
end

section
/-! SUPPORT. The register port against the document's register map: each register reads as its fields' weights, and an honoured
write stores its fields. -/

namespace Sys2Proof.Machine

open Sys2Proof.Reference

/-- The reserved indices are those from 12 on (10_state.md R42). -/
theorem Reg.twelve_le_of_ofIndex_none {i : BitVec 6} (h : Reg.ofIndex i = none) : 12 ≤ i.toNat := by
  unfold Reg.ofIndex at h
  split at h <;> cases h
  grind

/-! ### Reads -/

/-- Concatenation puts the left word above the right one, by its weight. -/
theorem toNat_append_eq_add {m n : Nat} (x : BitVec m) (y : BitVec n) :
    (x ++ y).toNat = 2 ^ n * x.toNat + y.toNat := by
  rw [BitVec.toNat_append, ← Nat.shiftLeft_add_eq_or_of_lt y.isLt, Nat.shiftLeft_eq, Nat.mul_comm]

theorem fourBytes_toNat (b₀ b₁ b₂ b₃ : Byte) :
    (b₃ ++ b₂ ++ b₁ ++ b₀).toNat = b₀.toNat + 2 ^ 8 * b₁.toNat + 2 ^ 16 * b₂.toNat + 2 ^ 24 * b₃.toNat := by
  simp only [toNat_append_eq_add]
  omega

theorem zextBit_toNat (b : Bool) : (zextBit b).toNat = b.toNat := by cases b <;> rfl

/-- The STATUS word by the weights of its fields (10_state.md R24). -/
theorem State.statusWord_toNat (s : State) :
    s.statusWord.toNat =
      s.busy.toNat + 2 * s.done.toNat + 4 * s.err.toNat + 8 * s.ign.toNat + 16 * s.ecode.toNat := by
  simp only [State.statusWord, toNat_append_eq_add, BitVec.toNat_ofBool, BitVec.toNat_ofNat]
  omega

/-- A defined register reads as its fields' weights say. -/
theorem State.readReg_eq_readWord (s : State) (r : Reg) : s.readReg r = readWord s r.index := by
  have byNumber {w : Word} {n : Nat} (h : w.toNat = n) : w = BitVec.ofNat 32 n := (BitVec.toNat_eq_nat.mp h).2
  cases r with
  | cmd | cycles | operand | result => exact byNumber rfl
  | status => exact byNumber s.statusWord_toNat
  | irqEn => exact byNumber (zextBit_toNat s.ie)
  | height | width => exact byNumber (BitVec.toNat_setWidth_of_le (by decide))
  | rules0 => exact byNumber (fourBytes_toNat s.rt[0] s.rt[1] s.rt[2] s.rt[3])
  | rules1 => exact byNumber (fourBytes_toNat s.rt[4] s.rt[5] s.rt[6] s.rt[7])
  | maxpix => rfl
  | features => cases h : s.cfg.rule165 <;> simp [State.readReg, readWord, Reg.index, h]

/-- The register map gives 0 at a reserved index (10_state.md R42). -/
theorem readWord_of_reserved (s : State) {i : BitVec 6} (h : 12 ≤ i.toNat) : readWord s i = 0 := by
  obtain ⟨n, hn⟩ := Nat.exists_eq_add_of_le' h
  simp [readWord, hn]

theorem State.readIndex_eq_readWord (s : State) (i : BitVec 6) : s.readIndex i = readWord s i := by
  cases hr : Reg.ofIndex i with
  | none => simp [State.readIndex, hr, readWord_of_reserved s (Reg.twelve_le_of_ofIndex_none hr)]
  | some r =>
    obtain rfl := Reg.eq_index_of_ofIndex hr
    simpa [State.readIndex] using s.readReg_eq_readWord r

theorem step_of_regRead {s : State} {i : BitVec 6} {rest : List Event} (head : s.schedule = .regRead i :: rest) :
    step s = .next ((s.past rest).respond (.reg (s.readIndex i))) := by
  simp [step_eq_answer, State.nextAction, head, Action.answer]

/-- Settles O33: the step of a read responds with `readIndex`, which is the register map's word. -/
theorem regReadReturnsFieldsWithoutSideEffect : Obligations.RegReadReturnsFieldsWithoutSideEffect := by
  intro s i rest head
  rw [step_of_regRead head, s.readIndex_eq_readWord]
  rfl

/-! ### Writes -/

/-- Clearing a flag by a 1 in its bit (10_state.md R24). -/
theorem and_not_eq_ite (flag bit : Bool) : (flag && !bit) = if bit then false else flag := by
  cases bit <;> simp

/-- What the port stores is what the register map says; a write of CMD is an accept, not a store (43_cipher_engine.md R171). -/
theorem State.storeReg_eq_writeWord (s : State) {r : Reg} (notCmd : r ≠ .cmd) (w : Word) :
    s.storeReg r w = writeWord s r.index w := by
  have byte (k : Nat) : w.extractLsb' (8 * k) 8 = wordByte w k := extractLsb'_eq_wordByte w k
  cases r with
  | cmd => exact absurd rfl notCmd
  | status => simp [State.storeReg, State.writeStatus, writeWord, Reg.index, and_not_eq_ite]
  | height | width => simp [State.storeReg, writeWord, Reg.index, ← BitVec.toNat_inj]
  | rules0 | rules1 => simp [State.storeReg, setRules0, setRules1, writeWord, Reg.index, ← byte]
  | irqEn | cycles | operand | result | maxpix | features => rfl

/-- RESULT, MAXPIX, FEATURES and the reserved indices ignore a write (20_memory.md R63). -/
theorem writeWord_of_readOnly (s : State) {i : BitVec 6} (h : 9 ≤ i.toNat) (w : Word) : writeWord s i w = s := by
  obtain ⟨n, hn⟩ := Nat.exists_eq_add_of_le' h
  simp [writeWord, hn]

/-- A write that BUSY does not shut out has the effect the register map gives (20_memory.md R63, R64). -/
theorem State.regWrite_honoured {s : State} {i : BitVec 6} (honoured : s.busy = true → i.toNat ∉ [0, 3, 4, 5, 6, 7, 8])
    (w : Word) : (s.regWrite i w).answer = .next (writeWord s i w) := by
  rcases s.regWrite_cases i w with ⟨hr, ha⟩ | ⟨r, hr, busy, protect, -⟩ | ⟨hr, idle, ha⟩ | ⟨r, hr, notCmd, -, ha⟩
  · have reserved := Reg.twelve_le_of_ofIndex_none hr
    rw [ha, writeWord_of_readOnly s (by omega)]
    rfl
  · obtain rfl := Reg.eq_index_of_ofIndex hr
    exact absurd (r.busyProtected_iff.mp protect) (honoured busy)
  · obtain rfl := Reg.eq_index_of_ofIndex hr
    rw [ha, State.commandWrite_answer idle]
    rfl
  · obtain rfl := Reg.eq_index_of_ofIndex hr
    rw [ha, ← s.storeReg_eq_writeWord notCmd]
    rfl

theorem step_of_honouredWrite {s : State} {i : BitVec 6} {w : Word} {rest : List Event}
    (honoured : s.busy = true → i.toNat ∉ [0, 3, 4, 5, 6, 7, 8]) (head : s.schedule = .regWrite i w :: rest) :
    step s = .next (writeWord (taken s rest) i w) :=
  (step_of_regWrite head).trans (State.regWrite_honoured (s := s.past rest) honoured w)

/-- Settles O34: with BUSY = 0 every write is honoured. -/
theorem regWriteHonouredWhenIdle : Obligations.RegWriteHonouredWhenIdle := fun _ _ _ _ idle head =>
  step_of_honouredWrite (fun busy => absurd (idle.symm.trans busy) (by decide)) head

end Sys2Proof.Machine
end

section
/-! SUPPORT. What a step cannot touch while it leaves a command in flight. -/

namespace Sys2Proof.Machine

open Sys2Proof.Reference

/-- The registers and cells that a command in flight reads are as they were (20_memory.md R64). -/
structure SameConfiguration (s t : State) : Prop where
  cmd : t.cmd = s.cmd
  cycles : t.cycles = s.cycles
  height : t.height = s.height
  width : t.width = s.width
  rt : t.rt = s.rt
  operand : t.operand = s.operand
  grid : t.grid = s.grid

namespace SameConfiguration

variable {s t : State}

/-- The registers that are not busy-protected hold no configuration. -/
theorem storeReg (s : State) {r : Reg} (unprotected : r.busyProtected = false) (w : Word) :
    SameConfiguration s (s.storeReg r w) := by
  cases r with
  | cmd | cycles | height | width | rules0 | rules1 | operand => exact nomatch unprotected
  | status | irqEn | result | maxpix | features => exact ⟨rfl, rfl, rfl, rfl, rfl, rfl, rfl⟩

theorem of_regWrite (busy : s.busy = true) {i : BitVec 6} {w : Word} (h : (s.regWrite i w).answer = .next t) :
    SameConfiguration s t := by
  rcases s.regWrite_cases i w with ⟨-, ha⟩ | ⟨r, -, -, -, ha⟩ | ⟨-, idle, -⟩ | ⟨r, -, -, honoured, ha⟩
  · exact Host.Outcome.next.inj ((congrArg Action.answer ha).symm.trans h) ▸ ⟨rfl, rfl, rfl, rfl, rfl, rfl, rfl⟩
  · exact Host.Outcome.next.inj ((congrArg Action.answer ha).symm.trans h) ▸ ⟨rfl, rfl, rfl, rfl, rfl, rfl, rfl⟩
  · exact absurd (idle.symm.trans busy) (by decide)
  · have unprotected : r.busyProtected = false := by simpa [busy] using honoured
    exact Host.Outcome.next.inj ((congrArg Action.answer ha).symm.trans h) ▸ storeReg s unprotected w

/-- A completion or a reset would have cleared BUSY, and the grid port holds while BUSY = 1; what is left is the register port. -/
theorem of_step (busy : s.busy = true) (h : step s = .next t) (stillBusy : t.busy = true) : SameConfiguration s t := by
  have cleared (idle : t.busy = false) : SameConfiguration s t := absurd (idle.symm.trans stillBusy) (by decide)
  have hcase := s.nextAction_case
  rw [step_eq_answer] at h
  generalize s.nextAction = action at h hcase
  cases hcase with
  | engine rest =>
    obtain ⟨i, -, hexec⟩ := State.engineTurn_completes (s := s.past rest) busy h
    obtain ⟨idle, -⟩ := exec_busy (s := s.past rest) busy hexec
    exact cleared idle
  | regRead i rest => exact Host.Outcome.next.inj h ▸ ⟨rfl, rfl, rfl, rfl, rfl, rfl, rfl⟩
  | regWrite i w rest =>
    obtain ⟨hcmd, hcycles, hheight, hwidth, hrt, hoperand, hgrid⟩ := of_regWrite (s := s.past rest) busy h
    exact ⟨hcmd, hcycles, hheight, hwidth, hrt, hoperand, hgrid⟩
  | gridRead a rest idle => exact absurd (idle.symm.trans busy) (by decide)
  | gridWrite a v rest idle => exact absurd (idle.symm.trans busy) (by decide)
  | reset rest => exact cleared (Host.Outcome.next.inj h ▸ rfl)
  | powerCycle rest => exact cleared (Host.Outcome.next.inj h ▸ rfl)

end SameConfiguration

/-- Settles O35: a protected write sets IGN, every other write is honoured, and a step that leaves BUSY at 1 keeps the
configuration. -/
theorem busyWriteProtection : Obligations.BusyWriteProtection := by
  refine ⟨fun s i w rest busy head => ⟨fun hprotected => ?ignored, fun hflags => ?flags, fun hreadOnly => ?readOnly⟩,
    fun s t busy h stillBusy => ?frozen⟩
  case ignored => exact step_of_protectedWrite busy head hprotected
  case flags =>
    have unprotected : i.toNat ∉ [0, 3, 4, 5, 6, 7, 8] := by grind
    exact step_of_honouredWrite (fun _ => unprotected) head
  case readOnly =>
    have unprotected : i.toNat ∉ [0, 3, 4, 5, 6, 7, 8] := by grind
    rw [step_of_honouredWrite (fun _ => unprotected) head, writeWord_of_readOnly _ hreadOnly]
  case frozen =>
    obtain ⟨hcmd, hcycles, hheight, hwidth, hrt, hoperand, hgrid⟩ := SameConfiguration.of_step busy h stillBusy
    exact ⟨hcmd, hcycles, hheight, hwidth, hrt, hoperand, hgrid⟩

end Sys2Proof.Machine
end

section
/-! SUPPORT. The grid port: the wait while BUSY = 1, and each transaction while the port is ready. -/

namespace Sys2Proof.Machine

open Sys2Proof.Reference

/-! ### The wait (20_memory.md R66) -/

/-- A grid transaction at the head waits: it stays there and the engine takes its turn (entry 5). -/
theorem step_of_heldTransaction {s : State} {e : Event} {rest : List Event} (busy : s.busy = true)
    (onGrid : (∃ a, e = .gridRead a) ∨ ∃ a v, e = .gridWrite a v) (head : s.schedule = e :: rest) :
    step s = (s.past (e :: rest)).engineTurn.answer := by
  have unchanged : s.past (e :: rest) = s.respond .none := by simp [State.past, State.withSchedule, State.respond, ← head]
  rw [unchanged]
  rcases onGrid with ⟨a, rfl⟩ | ⟨a, v, rfl⟩ <;>
    simp [step_eq_answer, State.nextAction, State.gridTurn, State.gridReady, busy, head]

/-- The command in flight passed its checks, so CMD holds a legal word (43_cipher_engine.md R171). -/
theorem Consistent.decode_inFlight {s : State} (h : Consistent s) (busy : s.busy = true) : ∃ i, decode s.cmd = .ok i := by
  obtain ⟨-, -, -, checked⟩ := h.inFlight busy
  cases hw : decode s.cmd with
  | ok i => exact ⟨i, rfl⟩
  | error e => exact absurd ((check_of_decode_error hw s).symm.trans checked) (by decide)

/-- The engine's turn completes the command in flight, with no other event taken. -/
theorem Consistent.engineTurn_answers {s : State} (h : Consistent s) (busy : s.busy = true) :
    ∃ t, s.engineTurn.answer = .next t ∧ t.schedule = s.schedule ∧ t.busy = false := by
  obtain ⟨i, hword⟩ := h.decode_inFlight busy
  obtain ⟨t, hexec⟩ := exec_answers_next i s
  obtain ⟨idle, -⟩ := exec_busy busy hexec
  have turn : s.engineTurn = .run i s := by simp [State.engineTurn, busy, hword]
  exact ⟨t, (congrArg Action.answer turn).trans hexec, (exec_frame hexec).schedule, idle⟩

/-- Settles O38: the step of a held transaction is the engine's turn, which completes the command. -/
theorem gridPortHoldsWhileBusy : Obligations.GridPortHoldsWhileBusy := by
  refine ⟨fun s e rest consistent busy onGrid head => ?held, fun s rest head => ⟨_, step_of_reset head, rfl⟩⟩
  case held =>
    have step_eq := step_of_heldTransaction busy onGrid head
    obtain ⟨t, hanswer, hschedule, idle⟩ := (consistent.past (e :: rest)).engineTurn_answers busy
    refine ⟨by simp [State.gridReady, busy], ?_, t, step_eq.trans hanswer, hschedule, by simp [State.gridReady, idle]⟩
    exact step_eq.trans (step_of_engine (s := { s with schedule := .engine :: e :: rest }) rfl).symm

/-! ### The ready port (20_memory.md R65, R67, R68) -/

/-- P_GRID_AW by the ceiling of the logarithm (00_scope.md R9). -/
theorem gridAddrWidth_eq_clog (n : Nat) : gridAddrWidth n = max 1 (Nat.clog 2 n) := by
  unfold gridAddrWidth
  split
  next small => rw [Nat.clog_of_right_le_one small]
  next large =>
    congr 1
    refine eq_of_forall_ge_iff fun k => ?_
    have hlog : (n - 1).log2 < k ↔ n - 1 < 2 ^ k := Nat.log2_lt (by omega)
    rw [Nat.clog_le_iff_le_pow (by decide), Nat.succ_le_iff, hlog]
    omega

section

variable {s : State} {a : Nat}

/-- A cell's address fits the port. -/
theorem lt_two_pow_gridAddrWidth {n : Nat} (inside : a < n) : a < 2 ^ gridAddrWidth n :=
  inside.trans_le (maxPixels_le_two_pow n)

theorem State.gridRead_value (inside : a < s.cfg.maxPixels) {v : Byte} (holds : s.grid.read a = some v) :
    s.gridRead a = .next (s.respond (.grid v)) := by
  simp [State.gridRead, (lt_two_pow_gridAddrWidth inside).not_ge, inside.not_ge, holds]

theorem State.gridRead_poison (inside : a < s.cfg.maxPixels) (poison : s.grid.read a = none) :
    s.gridRead a = .fault (.poisonRead a) := by
  simp [State.gridRead, (lt_two_pow_gridAddrWidth inside).not_ge, inside.not_ge, poison]

theorem State.gridRead_beyond (beyond : s.cfg.maxPixels ≤ a) (fits : a < 2 ^ gridAddrWidth s.cfg.maxPixels) :
    s.gridRead a = .next (s.respond (.grid 0)) := by
  simp [State.gridRead, fits.not_ge, beyond]

theorem State.gridWrite_inside (inside : a < s.cfg.maxPixels) (v : Byte) :
    s.gridWrite a v = .next (s.setGrid (s.grid.write a v)) := by
  simp [State.gridWrite, (lt_two_pow_gridAddrWidth inside).not_ge, inside.not_ge]

theorem State.gridWrite_beyond (beyond : s.cfg.maxPixels ≤ a) (fits : a < 2 ^ gridAddrWidth s.cfg.maxPixels) (v : Byte) :
    s.gridWrite a v = .next s := by
  simp [State.gridWrite, fits.not_ge, beyond]

variable {rest : List Event}

theorem step_of_gridRead (idle : s.busy = false) (head : s.schedule = .gridRead a :: rest) :
    step s = (s.past rest).gridRead a := by
  simp [step_eq_answer, State.nextAction, State.gridTurn, State.gridReady, idle, head, Action.answer]

theorem step_of_gridWrite (idle : s.busy = false) {v : Byte} (head : s.schedule = .gridWrite a v :: rest) :
    step s = (s.past rest).gridWrite a v := by
  simp [step_eq_answer, State.nextAction, State.gridTurn, State.gridReady, idle, head, Action.answer]

end

/-- Settles O40: P_GRID_AW is the model's address width, and neither transaction finds a cell. -/
theorem outOfRangeGridAddressReadsZero : Obligations.OutOfRangeGridAddressReadsZero := by
  intro s a v rest idle beyond fits
  rw [← gridAddrWidth_eq_clog] at fits
  exact ⟨fun head => (step_of_gridRead idle head).trans (State.gridRead_beyond (s := s.past rest) beyond fits),
    fun head => (step_of_gridWrite idle head).trans (State.gridWrite_beyond (s := s.past rest) beyond fits v)⟩

/-- Settles O39: the write is `Memory.write`, whose reads the memory's laws give. -/
theorem gridWriteAndRead : Obligations.GridWriteAndRead := by
  intro s a v rest idle inside
  refine ⟨fun head => ⟨s.grid.write a v, ?_, s.grid.read_write_same a v, fun x hx => s.grid.read_write_other v hx.symm⟩,
    fun head holds => ?_⟩
  · exact (step_of_gridWrite idle head).trans (State.gridWrite_inside (s := s.past rest) inside v)
  · exact (step_of_gridRead idle head).trans (State.gridRead_value (s := s.past rest) inside holds)

/-- Settles O41: the cell is inside the capacity, so only its poison decides. -/
theorem poisonReadIsAFault : Obligations.PoisonReadIsAFault := fun s _ rest idle inside poison head =>
  (step_of_gridRead idle head).trans (State.gridRead_poison (s := s.past rest) inside poison)

end Sys2Proof.Machine
end

section
/-! SUPPORT. The decoder over all words: legal words, reserved opcodes, reserved bits, and the round trip with the encoder. -/

namespace Sys2Proof.Machine

open Sys2Proof.Reference

/-! ### The opcode map (30_encoding.md R91) -/

@[simp] theorem decode_encode (i : Instr) : decode (encode i) = .ok i := by
  cases i <;> rfl

/-- The decoder's legal words are exactly the encodings: both directions of the opcode map at once. -/
theorem decode_eq_ok_iff {w : Word} {i : Instr} : decode w = .ok i ↔ w = encode i :=
  ⟨eq_encode_of_decode, fun h => h ▸ decode_encode i⟩

/-! ### The decoder by the number of the word (30_encoding.md R92) -/

section

variable {w : Word}

theorem decode_of_reservedBits (reserved : w.toNat / 16 ≠ 0) : decode w = .error .reservedBits :=
  if_pos (mt (reservedBits_zero_iff w).mp reserved)

theorem decode_eq_decodeOp (fits : w.toNat / 16 = 0) : decode w = decodeOp (w.extractLsb 3 0) :=
  if_neg (not_not.mpr ((reservedBits_zero_iff w).mpr fits))

theorem decodeOp_of_reserved {op : BitVec 4} (reserved : 0xA < op.toNat) : decodeOp op = .error .reservedOp := by
  unfold decodeOp
  split
  case h_12 => rfl
  all_goals omega

theorem decode_of_reservedOp (fits : w.toNat / 16 = 0) (reserved : 0xA < w.toNat % 16) : decode w = .error .reservedOp :=
  (decode_eq_decodeOp fits).trans (decodeOp_of_reserved (op_toNat w ▸ reserved))

theorem exists_decode_of_legal (fits : w.toNat / 16 = 0) (legal : w.toNat % 16 ≤ 0xA) : ∃ i, decode w = .ok i := by
  cases hop : decodeOp (w.extractLsb 3 0) with
  | ok i => exact ⟨i, (decode_eq_decodeOp fits).trans hop⟩
  | error e =>
    have reserved : 0xA < w.toNat % 16 := op_toNat w ▸ decodeOp_error hop
    exact absurd legal reserved.not_ge

/-- The accept of an ILLEGAL word: the first line of R212's check fails, whatever the state. -/
theorem accept_of_illegal {e : IllegalWord} (illegal : decode w = .error e) (s : State) :
    Reference.accept s w = inError s w 1 := by
  rw [Reference.accept, check_of_decode_error illegal s, if_pos (by decide)]

end

/-- Settles O2: the legal words are the encodings. -/
theorem decodeAndEncodeAgree : Obligations.DecodeAndEncodeAgree :=
  ⟨fun i _ => decode_encode i, fun _ _ => decode_eq_ok_iff.mp⟩

/-- Settles O3: the three classes of words by their number, and the CMD write of an ILLEGAL word as its reference accept. -/
theorem decodeTotalIllegalWordCompletesAtOnce : Obligations.DecodeTotalIllegalWordCompletesAtOnce := by
  refine ⟨fun w => ⟨decode_of_reservedBits, fun fits legal => ?legal, decode_of_reservedOp⟩,
    fun s w e rest idle head illegal => ?illegal⟩
  case legal =>
    obtain ⟨i, hi⟩ := exists_decode_of_legal fits legal
    exact ⟨i, hi, (decode_eq_ok_iff.mp hi).symm⟩
  case illegal =>
    calc step s
      _ = .next (Reference.accept (s.past rest) w) := step_of_cmdWrite idle head
      _ = .next (inError (taken s rest) w 1) := congrArg _ (accept_of_illegal illegal (s.past rest))

/-- Settles O1: the eleven words are the encodings, and the four others are ILLEGAL by their numbers. -/
theorem decodeReadsOpcodeMapWords : Obligations.DecodeReadsOpcodeMapWords :=
  ⟨decode_encode .nop, decode_encode .eval, decode_encode .step, decode_encode .iter, decode_encode .mask,
    decode_encode .unmask, decode_encode .encpix, decode_encode .decpix, decode_encode .run, decode_encode .encrypt,
    decode_encode .decrypt, decode_of_reservedOp (by decide) (by decide), decode_of_reservedOp (by decide) (by decide),
    decode_of_reservedBits (by decide), decode_of_reservedBits (by decide)⟩

end Sys2Proof.Machine
end

section
/-! SUPPORT. The bit codec (40_bitcodec.md): encode and decode by position, with position 0 the most significant bit, and their
round trips. -/

namespace Sys2Proof.Machine

/-! ### Encode by position (40_bitcodec.md R120) -/

theorem encodeBits_getElem (v : Byte) (k : Fin 8) : (encodeBits v)[k] = v.getLsbD (7 - k) := by
  fin_cases k <;> rfl

/-- A byte is determined by its positions: bit `i` stands at position `7 - i`. -/
theorem encodeBits_injective : Function.Injective encodeBits := by
  intro v w same
  refine BitVec.eq_of_getLsbD_eq fun i hi => ?_
  have position (u : Byte) : (encodeBits u)[(⟨7 - i, by omega⟩ : Fin 8)] = u.getLsbD i := by
    rw [encodeBits_getElem, Nat.sub_sub_self (Nat.le_of_lt_succ hi)]
  rw [← position v, same, position w]

/-! ### Decode as the weighted sum of the positions (40_bitcodec.md R121) -/

theorem ofBits_eq_sum {n : ℕ} (f : Fin n → Bool) : Nat.ofBits f = ∑ i : Fin n, (f i).toNat * 2 ^ i.val := by
  induction n with
  | zero => rfl
  | succ n ih =>
    rw [Nat.ofBits_succ, ih, Fin.sum_univ_succ, Finset.mul_sum, Nat.add_comm]
    simp [pow_succ', mul_left_comm]

/-- The number of a bit string written from its most significant bit is the sum of its bits by weight. -/
theorem toNat_ofFnBE_eq_sum (f : Fin 8 → Bool) :
    (BitVec.ofFnBE f).toNat = ∑ k : Fin 8, (f k).toNat * 2 ^ (7 - k.val) := by
  calc (BitVec.ofFnBE f).toNat
    _ = ∑ i : Fin 8, (f i.rev).toNat * 2 ^ i.val := (BitVec.toNat_ofFnBE f).trans (ofBits_eq_sum _)
    _ = ∑ k : Fin 8, (f k).toNat * 2 ^ k.rev.val := by
      simpa using Equiv.sum_comp Fin.revPerm fun k => (f k).toNat * 2 ^ k.rev.val
    _ = ∑ k : Fin 8, (f k).toNat * 2 ^ (7 - k.val) := by simp only [Fin.val_rev, Nat.reduceSubDiff]

theorem decodeBits_eq_ofFnBE (bv : BitVector) : decodeBits bv = BitVec.ofFnBE fun k : Fin 8 => bv[k] := by
  have weights : decodeBits bv = BitVec.ofNat 8 (∑ k : Fin 8, bv[k].toNat * 2 ^ (7 - k.val)) := by
    rw [Fin.sum_univ_eight]; rfl
  rw [weights, ← toNat_ofFnBE_eq_sum, BitVec.ofNat_toNat, BitVec.setWidth_eq]

/-- Bit `7 - k` of the decoded byte is position `k`. -/
theorem decodeBits_getLsbD (bv : BitVector) (k : Fin 8) : (decodeBits bv).getLsbD (7 - k) = bv[k] := by
  have mirrored : (⟨7 - k, by omega⟩ : Fin 8).rev = k := by
    ext
    simp only [Fin.val_rev]
    omega
  rw [decodeBits_eq_ofFnBE, BitVec.getLsbD_ofFnBE, dif_pos (by omega), mirrored]

/-! ### The round trips (40_bitcodec.md R122) -/

theorem encodeBits_decodeBits (bv : BitVector) : encodeBits (decodeBits bv) = bv := by
  refine Vector.ext fun k hk => ?_
  calc (encodeBits (decodeBits bv))[k]
    _ = (decodeBits bv).getLsbD (7 - k) := encodeBits_getElem _ ⟨k, hk⟩
    _ = bv[k] := decodeBits_getLsbD bv ⟨k, hk⟩

/-- The other round trip follows, since encode is injective. -/
theorem decodeBits_encodeBits (v : Byte) : decodeBits (encodeBits v) = v :=
  encodeBits_injective (encodeBits_decodeBits (encodeBits v))

/-- Settles O5: encode read at each position, and decode as a big-endian bit string. -/
theorem bitCodecDefinitions : Obligations.BitCodecDefinitions :=
  ⟨encodeBits_getElem, fun bv => by rw [decodeBits_eq_ofFnBE, toNat_ofFnBE_eq_sum]⟩

/-- Settles O6: the two round trips. -/
theorem bitCodecRoundTrip : Obligations.BitCodecRoundTrip :=
  ⟨decodeBits_encodeBits, encodeBits_decodeBits⟩

end Sys2Proof.Machine
end

section
/-! SUPPORT. The rule evaluator (41_rule_evaluator.md): the nine identifiers, each rule's closed form and truth table, and the
command EVAL. -/

namespace Sys2Proof.Machine

open Sys2Proof.Reference

/-! ### The nine identifiers (41_rule_evaluator.md R130, R131) -/

/-- The identifier byte of a rule. -/
def RuleId.byte : RuleId → Byte
  | .r51 => 51
  | .r85 => 85
  | .r86 => 86
  | .r102 => 102
  | .r105 => 105
  | .r150 => 150
  | .r153 => 153
  | .r165 => 165
  | .r240 => 240

/-- The nine bytes are read back as their rules, and no other byte is read as a rule. -/
theorem RuleId.ofByte_eq_some_iff {r : Byte} {rule : RuleId} : RuleId.ofByte r = some rule ↔ r = rule.byte := by
  constructor
  · intro h
    unfold RuleId.ofByte at h
    split at h
    case h_10 => exact nomatch h
    all_goals
      cases h
      exact BitVec.eq_of_toNat_eq ‹_›
  · rintro rfl
    cases rule <;> rfl

theorem exists_rule_of_supportedId {r : Byte} (h : supportedId r) : ∃ rule : RuleId, r = rule.byte := by
  obtain ⟨rule, hrule⟩ := Option.isSome_iff_exists.mp ((supported_iff_supportedId r).mpr h)
  exact ⟨rule, RuleId.ofByte_eq_some_iff.mp hrule⟩

section

variable (m : Rule165Mode) (a b c : Bool)

/-- The identifier byte of a rule evaluates to the rule's expression. -/
theorem evaluate_byte (rule : RuleId) : evaluate m rule.byte a b c = rule.apply m a b c := by
  rw [evaluate, RuleId.ofByte_eq_some_iff.mpr rfl]

/-! ### Closed forms (41_rule_evaluator.md R134 to R139) -/

theorem RuleId.apply_r86 : RuleId.apply m .r86 a b c = ((a || b) ^^ c) := by
  cases c <;> simp [RuleId.apply]

theorem RuleId.apply_r102 : RuleId.apply m .r102 a b c = (b ^^ c) := by
  cases b <;> simp [RuleId.apply]

/-- Rule 153 is the complement of rule 102. -/
theorem RuleId.apply_r153 : RuleId.apply m .r153 a b c = !(b ^^ c) := by
  cases b <;> simp [RuleId.apply]

theorem RuleId.apply_r150 : RuleId.apply m .r150 a b c = (a ^^ b ^^ c) := by
  cases a <;> cases b <;> simp [RuleId.apply]

theorem RuleId.apply_r105 : RuleId.apply m .r105 a b c = !(a ^^ b ^^ c) := by
  cases a <;> cases b <;> simp [RuleId.apply]

theorem RuleId.apply_r165_xnorAc : RuleId.apply .xnorAc .r165 a b c = !(a ^^ c) := by
  cases a <;> simp [RuleId.apply]

/-- The exclusive or of three cells is their odd parity. -/
theorem xor_eq_true_iff_odd : (a ^^ b ^^ c) = true ↔ (a.toNat + b.toNat + c.toNat) % 2 = 1 := by
  decide +revert

theorem not_xor_eq_true_iff_even : (!(a ^^ b ^^ c)) = true ↔ (a.toNat + b.toNat + c.toNat) % 2 = 0 := by
  rw [Bool.not_eq_true', ← Bool.not_eq_true, xor_eq_true_iff_odd]
  exact Nat.mod_two_ne_one

/-! ### The truth table (41_rule_evaluator.md R141, R142) -/

/-- Each rule's expression is the row of the truth table that its identifier names; 165 has a row for each build mode. -/
theorem RuleId.apply_eq_ruleBit (rule : RuleId) : rule.apply m a b c = ruleBit m rule.byte a b c := by
  cases rule with
  | r165 =>
    cases m with
    | xnorAc => decide +revert
    | constOne => rfl
  | r51 | r85 | r86 | r102 | r105 | r150 | r153 | r240 => cases m <;> decide +revert

theorem evaluate_eq_ruleBit {r : Byte} (h : supportedId r) : evaluate m r a b c = ruleBit m r a b c := by
  obtain ⟨rule, rfl⟩ := exists_rule_of_supportedId h
  rw [evaluate_byte, RuleId.apply_eq_ruleBit]

end

/-- Settles O7. -/
theorem supportedExactlyNineIdentifiers : Obligations.SupportedExactlyNineIdentifiers := supported_iff_supportedId

/-- Settles O8: each identifier's rule, and the closed forms of 102 and 153. -/
theorem ruleExpressions : Obligations.RuleExpressions := fun m a b c =>
  have expression := evaluate_byte m a b c
  ⟨expression .r51, expression .r85, expression .r86,
    ⟨expression .r102, (expression .r102).trans (RuleId.apply_r102 m a b c)⟩, expression .r105, expression .r150,
    ⟨expression .r153, (expression .r153).trans (RuleId.apply_r153 m a b c)⟩, expression .r240⟩

/-- Settles O9: the closed forms of 86, 105 and 150, and the parity that the exclusive or of the cells is. -/
theorem ruleClosedForms : Obligations.RuleClosedForms := by
  intro m a b c
  have rule86 := (evaluate_byte m a b c .r86).trans (RuleId.apply_r86 m a b c)
  have rule105 := (evaluate_byte m a b c .r105).trans (RuleId.apply_r105 m a b c)
  have rule150 := (evaluate_byte m a b c .r150).trans (RuleId.apply_r150 m a b c)
  exact ⟨rule86, rule105, rule105 ▸ not_xor_eq_true_iff_even a b c, rule150, rule150 ▸ xor_eq_true_iff_odd a b c⟩

/-- Settles O10: rule 165's expression in each build mode, and its closed form under XNOR_AC. -/
theorem rule165FollowsBuildMode : Obligations.Rule165FollowsBuildMode := fun a b c =>
  have xnorAc := evaluate_byte .xnorAc a b c .r165
  ⟨xnorAc, xnorAc.trans (RuleId.apply_r165_xnorAc a b c), evaluate_byte .constOne a b c .r165⟩

/-- Settles O11: a supported identifier is one of the nine rules, and each agrees with its row of the truth table. -/
theorem evaluateSelectsIdentifierBit : Obligations.EvaluateSelectsIdentifierBit := fun m _ a b c h =>
  evaluate_eq_ruleBit m a b c h

/-! ### A command's accept and completion against the reference states (43_cipher_engine.md R171, R172) -/

section

variable {s : State} {i : Instr}

/-- A command other than NOP whose checks pass goes in flight. -/
theorem exec_accept_inFlight (idle : s.busy = false) (notNop : i ≠ .nop) (passes : s.checksOf i = none) :
    exec i s = .next (inFlight s (encode i)) := by
  rw [exec_accept idle notNop, passes]
  rfl

/-- A command with a failed check is in error with the code of that check. -/
theorem exec_accept_inError (idle : s.busy = false) {e : ErrorCode} (fails : s.checksOf i = some e) :
    exec i s = .next (inError s (encode i) e.code) := by
  have notNop : i ≠ .nop := by
    rintro rfl
    exact nomatch fails
  rw [exec_accept idle notNop, fails]
  rfl

/-- The completion of a scalar command changes RESULT, BUSY and DONE only. -/
theorem State.runCommand_setResult (busy : s.busy = true) (checks : Option ErrorCode) (v : Word) :
    s.runCommand i checks (s.setResult v) = .next (completed { s with result := v }) :=
  State.runCommand_busy busy ..

end

/-! ### EVAL (41_rule_evaluator.md R145) -/

theorem zextBit_eq_ofNat (b : Bool) : zextBit b = BitVec.ofNat 32 b.toNat := by cases b <;> rfl

section

variable {s : State}

theorem State.operandRid_eq_operandByte (s : State) : s.operandRid = operandByte s := s.operandRid_eq

theorem State.ridError_of_supported (h : supportedId (operandByte s)) : s.ridError = none := by
  rw [State.ridError, State.operandRid_eq_operandByte, if_pos ((supported_iff_supportedId _).mpr h)]

theorem State.ridError_of_unsupported (h : ¬ supportedId (operandByte s)) : s.ridError = some .badRule := by
  rw [State.ridError, State.operandRid_eq_operandByte, if_neg (mt (supported_iff_supportedId _).mp h)]

/-- What EVAL leaves in RESULT is the truth table's bit for the fields of OPERAND. -/
theorem State.evaluate_operand (h : supportedId (operandByte s)) :
    evaluate s.cfg.rule165 s.operandRid s.operandA s.operandB s.operandC =
      ruleBit s.cfg.rule165 (operandByte s) (s.operand.getLsbD 10) (s.operand.getLsbD 9) (s.operand.getLsbD 8) := by
  rw [State.operandRid_eq_operandByte, evaluate_eq_ruleBit _ _ _ _ h]
  rfl

theorem exec_eval_completion (busy : s.busy = true) :
    exec .eval s = .next (completed { s with
      result := zextBit (evaluate s.cfg.rule165 s.operandRid s.operandA s.operandB s.operandC) }) :=
  State.runCommand_setResult busy ..

end

/-- Settles O20: the completion by the truth table's bit, and the accept by the check of the identifier. -/
theorem evalCompletes : Obligations.EvalCompletes := by
  refine fun s => ⟨fun busy supported => ?completion, fun idle supported => ?inFlight, fun idle unsupported => ?inError⟩
  case completion => rw [exec_eval_completion busy, State.evaluate_operand supported, zextBit_eq_ofNat]
  case inFlight => exact exec_accept_inFlight idle (by decide) (State.ridError_of_supported supported)
  case inError => exact exec_accept_inError (i := .eval) idle (State.ridError_of_unsupported unsupported)

end Sys2Proof.Machine
end

section
/-! SUPPORT. The automaton step (42_automaton_step.md R150 to R157): its bitwise form, its agreement with the reference step, and its
iteration. -/

namespace Sys2Proof.Machine

open Sys2Proof.Reference

section

variable (m : Rule165Mode) (rt : Vector Byte 8) (p : Byte)

/-! ### The bitwise form (42_automaton_step.md R154) -/

/-- Position `k` is bit `7 - k`: its left cell is that bit of `A = p >> 1` (42_automaton_step.md R152, R154). -/
theorem leftCell_encodeBits (k : Fin 8) : leftCell (encodeBits p) k = (p >>> 1).getLsbD (7 - k) := by
  fin_cases k <;> simp [leftCell, encodeBits]

/-- Position `k` is bit `7 - k`: its right cell is that bit of `C = p << 1` (42_automaton_step.md R152, R154). -/
theorem rightCell_encodeBits (k : Fin 8) : rightCell (encodeBits p) k = (p <<< 1).getLsbD (7 - k) := by
  fin_cases k <;> simp [rightCell, encodeBits]

theorem nextBit_encodeBits (k : Fin 8) :
    nextBit m rt (encodeBits p) k =
      evaluate m rt[k] ((p >>> 1).getLsbD (7 - k)) (p.getLsbD (7 - k)) ((p <<< 1).getLsbD (7 - k)) := by
  rw [nextBit, leftCell_encodeBits, encodeBits_getElem, rightCell_encodeBits]

theorem automatonStep_getLsbD_position (k : Fin 8) :
    (automatonStep m rt p).getLsbD (7 - k) = nextBit m rt (encodeBits p) k := by
  rw [automatonStep, decodeBits_getLsbD]
  fin_cases k <;> rfl

/-- Bit `i` of the step is the rule of slot `7 - i` on bit `i` of A, B and C. -/
theorem automatonStep_getLsbD (i : Fin 8) :
    (automatonStep m rt p).getLsbD i =
      evaluate m rt[7 - i.val] ((p >>> 1).getLsbD i) (p.getLsbD i) ((p <<< 1).getLsbD i) := by
  have position := automatonStep_getLsbD_position m rt p i.rev
  have mirrored : 7 - i.rev.val = i := by rw [Fin.val_rev]; omega
  have slot : i.rev.val = 7 - i.val := by rw [Fin.val_rev]; omega
  rw [nextBit_encodeBits, mirrored] at position
  simpa only [Fin.getElem_fin, slot] using position

/-! ### The reference step -/

/-- Bit `n` of a pixel, 0 beyond its top end. -/
theorem pixelBit_natCast (n : Nat) : pixelBit p n = p.getLsbD n := by
  unfold pixelBit
  split
  case isTrue => rw [Int.toNat_natCast, BitVec.testBit_toNat]
  case isFalse outside => rw [BitVec.getLsbD_of_ge p n (by omega)]

theorem pixelBit_add_one (n : Nat) : pixelBit p (n + 1) = (p >>> 1).getLsbD n := by
  rw [← Nat.cast_succ, pixelBit_natCast, BitVec.getLsbD_ushiftRight, Nat.add_comm]

theorem pixelBit_sub_one {n : Nat} (inside : n < 8) : pixelBit p (n - 1) = (p <<< 1).getLsbD n := by
  cases n with
  | zero => simp [pixelBit]
  | succ j => rw [Nat.cast_succ, add_sub_cancel_right, pixelBit_natCast, BitVec.getLsbD_shiftLeft]; simp [inside]

/-- The three bits of a neighbourhood in the reference step are the bits of A, B and C. -/
theorem nextPixelBit_eq_ruleBit (i : Fin 8) :
    nextPixelBit m rt p i = ruleBit m rt[7 - i.val] ((p >>> 1).getLsbD i) (p.getLsbD i) ((p <<< 1).getLsbD i) := by
  rw [nextPixelBit, pixelBit_add_one, pixelBit_natCast, pixelBit_sub_one p i.isLt]

theorem pixelStep_getLsbD (i : Fin 8) : (pixelStep m rt p).getLsbD i = nextPixelBit m rt p i := by
  rw [pixelStep, ← ofBits_eq_sum, BitVec.getLsbD_ofNat, Nat.testBit_ofBits_lt _ _ i.isLt]
  simp

end

/-- The two steps agree as functions, so that their iterates agree too. -/
theorem automatonStep_eq_pixelStep (m : Rule165Mode) {rt : Vector Byte 8} (supported : supportedTable rt) :
    automatonStep m rt = pixelStep m rt := by
  funext p
  refine BitVec.eq_of_getLsbD_eq fun i hi => ?_
  have slot : supportedId rt[7 - i] := supported ⟨7 - i, by omega⟩
  calc (automatonStep m rt p).getLsbD i
    _ = evaluate m rt[7 - i] ((p >>> 1).getLsbD i) (p.getLsbD i) ((p <<< 1).getLsbD i) :=
      automatonStep_getLsbD m rt p ⟨i, hi⟩
    _ = ruleBit m rt[7 - i] ((p >>> 1).getLsbD i) (p.getLsbD i) ((p <<< 1).getLsbD i) := evaluate_eq_ruleBit _ _ _ _ slot
    _ = nextPixelBit m rt p ⟨i, hi⟩ := (nextPixelBit_eq_ruleBit m rt p ⟨i, hi⟩).symm
    _ = (pixelStep m rt p).getLsbD i := (pixelStep_getLsbD m rt p ⟨i, hi⟩).symm

/-- The model's iteration is the function iterate (42_automaton_step.md R157). -/
theorem iterPixel_eq_iterate (m : Rule165Mode) (rt : Vector Byte 8) (n : Nat) :
    iterPixel m rt n = (automatonStep m rt)^[n] := by
  induction n with
  | zero => rfl
  | succ n ih => funext p; rw [iterPixel, ih, Function.iterate_succ_apply]

/-- Settles O12: bit by bit, since a supported slot evaluates to its truth table. -/
theorem stepEqualsReferenceStep : Obligations.StepEqualsReferenceStep := fun m _ p supported =>
  congrFun (automatonStep_eq_pixelStep m supported) p

/-- Settles O13: the neighbourhood of each position as bits of the shifted bytes. -/
theorem stepIsBitwiseForm : Obligations.StepIsBitwiseForm := fun m rt p =>
  ⟨automatonStep_getLsbD m rt p, by simp, by simp⟩

/-- Settles O14: the bitwise form at bits 7 and 0, where a shift fills in 0. -/
theorem fixedBoundaryAtBothEnds : Obligations.FixedBoundaryAtBothEnds := fun m rt p =>
  ⟨by simpa using automatonStep_getLsbD m rt p 7, by simpa using automatonStep_getLsbD m rt p 0⟩

/-- Settles O17: iteration by recursion is the iterate of the step. -/
theorem iterComposesSteps : Obligations.IterComposesSteps := fun m rt n => congrFun (iterPixel_eq_iterate m rt n)

end Sys2Proof.Machine
end

section
/-! SUPPORT. The step with a uniform table and with the document's reference table (42_automaton_step.md R155, R156). -/

namespace Sys2Proof.Machine

open Sys2Proof.Reference

/-- A slot that holds a rule's identifier gives its bit by the rule's expression. -/
theorem automatonStep_getLsbD_of_slot (m : Rule165Mode) {rt : Vector Byte 8} (p : Byte) (i : Fin 8) {rule : RuleId}
    (slot : rt[7 - i.val] = rule.byte) :
    (automatonStep m rt p).getLsbD i = rule.apply m ((p >>> 1).getLsbD i) (p.getLsbD i) ((p <<< 1).getLsbD i) := by
  rw [automatonStep_getLsbD, slot, evaluate_byte]

/-- A uniform table's step is the word `q` whose every bit is the rule of the bits of A, B and C (42_automaton_step.md R155). -/
theorem uniformStep_eq_of_bits {m : Rule165Mode} {rule : RuleId} {p q : Byte}
    (bits : ∀ i < 8, rule.apply m ((p >>> 1).getLsbD i) (p.getLsbD i) ((p <<< 1).getLsbD i) = q.getLsbD i) :
    uniformStep m rule.byte p = q := by
  refine BitVec.eq_of_getLsbD_eq fun i hi => ?_
  rw [← bits i hi]
  exact automatonStep_getLsbD_of_slot m p ⟨i, hi⟩ (Vector.getElem_replicate _)

/-! ### The closed forms of the uniform tables (42_automaton_step.md R155) -/

section

variable (m : Rule165Mode) (p : Byte)

theorem uniformStep_51 : uniformStep m 51 p = ~~~p :=
  uniformStep_eq_of_bits (rule := .r51) fun _ hi => by simp [RuleId.apply, hi]

theorem uniformStep_85 : uniformStep m 85 p = ~~~(p <<< 1) :=
  uniformStep_eq_of_bits (rule := .r85) fun _ hi => by simp [RuleId.apply, hi]

theorem uniformStep_86 : uniformStep m 86 p = ((p >>> 1) ||| p) ^^^ (p <<< 1) :=
  uniformStep_eq_of_bits (rule := .r86) fun _ _ => by simp [RuleId.apply_r86]

theorem uniformStep_102 : uniformStep m 102 p = p ^^^ (p <<< 1) :=
  uniformStep_eq_of_bits (rule := .r102) fun _ _ => by simp [RuleId.apply_r102]

theorem uniformStep_105 : uniformStep m 105 p = ~~~((p >>> 1) ^^^ p ^^^ (p <<< 1)) :=
  uniformStep_eq_of_bits (rule := .r105) fun _ hi => by simp [RuleId.apply_r105, hi]

theorem uniformStep_150 : uniformStep m 150 p = (p >>> 1) ^^^ p ^^^ (p <<< 1) :=
  uniformStep_eq_of_bits (rule := .r150) fun _ _ => by simp [RuleId.apply_r150]

theorem uniformStep_153 : uniformStep m 153 p = ~~~(p ^^^ (p <<< 1)) :=
  uniformStep_eq_of_bits (rule := .r153) fun _ hi => by simp [RuleId.apply_r153, hi]

theorem uniformStep_165_xnorAc : uniformStep .xnorAc 165 p = ~~~((p >>> 1) ^^^ (p <<< 1)) :=
  uniformStep_eq_of_bits (rule := .r165) fun _ hi => by simp [RuleId.apply_r165_xnorAc, hi]

theorem uniformStep_240 : uniformStep m 240 p = p >>> 1 :=
  uniformStep_eq_of_bits (rule := .r240) fun _ _ => by simp [RuleId.apply]

end

/-! ### Which uniform tables are injective (42_automaton_step.md R155) -/

/-- A map that keeps exclusive or is injective when its kernel is 0. -/
theorem injective_of_xor_kernel {f : Byte → Byte} (additive : ∀ p q, f (p ^^^ q) = f p ^^^ f q)
    (kernel : ∀ d, f d = 0 → d = 0) : Function.Injective f := fun p q same =>
  BitVec.xor_eq_zero_iff.mp (kernel _ ((additive p q).trans (BitVec.xor_eq_zero_iff.mpr same)))

theorem injective_xor_shiftLeft : Function.Injective fun p : Byte => p ^^^ (p <<< 1) := by
  refine injective_of_xor_kernel (fun p q => ?additive) fun d zero => ?kernel
  case additive => rw [BitVec.shiftLeft_xor_distrib]; ac_rfl
  case kernel =>
    have fixed : d = d <<< 1 := BitVec.xor_eq_zero_iff.mp zero
    bv_omega

theorem injective_shiftRight_xor_shiftLeft : Function.Injective fun p : Byte => (p >>> 1) ^^^ (p <<< 1) := by
  refine injective_of_xor_kernel (fun p q => ?additive) fun d zero => ?kernel
  case additive => rw [BitVec.shiftLeft_xor_distrib, BitVec.ushiftRight_xor_distrib]; ac_rfl
  case kernel =>
    have same : d >>> 1 = d <<< 1 := BitVec.xor_eq_zero_iff.mp zero
    -- No d in 1..255 has half of it equal to its double modulo 256.
    have byNumbers := congrArg BitVec.toNat same
    rw [BitVec.toNat_ushiftRight, BitVec.toNat_shiftLeft, Nat.shiftLeft_eq, Nat.shiftRight_eq_div_pow] at byNumbers
    have wraps : d.toNat * 2 ^ 1 % 2 ^ 8 = d.toNat * 2 ∨ d.toNat * 2 ^ 1 % 2 ^ 8 + 256 = d.toNat * 2 := by omega
    rw [← byNumbers] at wraps
    bv_omega

/-- The complement of an injective map is injective. -/
theorem injective_not {f : Byte → Byte} (injective : Function.Injective f) : Function.Injective fun p => ~~~f p :=
  fun _ _ same => injective (BitVec.not_inj.mp same)

/-- Settles O15: the closed forms bit by bit; injective where the exclusive or has kernel 0, and two bytes with one image
elsewhere. -/
theorem uniformTableClosedForms : Obligations.UniformTableClosedForms := by
  refine fun m => ⟨fun p => ⟨uniformStep_51 m p, uniformStep_85 m p, uniformStep_86 m p, uniformStep_102 m p,
    uniformStep_105 m p, uniformStep_150 m p, uniformStep_153 m p, uniformStep_165_xnorAc p, uniformStep_240 m p⟩, ?_⟩
  rw [funext (uniformStep_51 m), funext (uniformStep_102 m), funext (uniformStep_153 m), funext uniformStep_165_xnorAc,
    funext (uniformStep_85 m), funext (uniformStep_86 m), funext (uniformStep_105 m), funext (uniformStep_150 m),
    funext (uniformStep_240 m)]
  simp only [Function.not_injective_iff]
  exact ⟨injective_not Function.injective_id, injective_xor_shiftLeft, injective_not injective_xor_shiftLeft,
    injective_not injective_shiftRight_xor_shiftLeft, ⟨0x00, 0x80, by decide⟩, ⟨0x5E, 0x81, by decide⟩,
    ⟨0x00, 0xDB, by decide⟩, ⟨0x00, 0xDB, by decide⟩, ⟨0x00, 0x01, by decide⟩⟩

/-! ### The reference table (42_automaton_step.md R156) -/

section

variable (m : Rule165Mode) (p : Byte)

/-- The eight bit equations of the reference table's step. -/
theorem referenceStep_bits :
    let q := automatonStep m referenceTable p
    q.getLsbD 7 = (p.getLsbD 7 ^^ p.getLsbD 6) ∧
    q.getLsbD 6 = (p.getLsbD 6 ^^ p.getLsbD 5) ∧
    q.getLsbD 5 = (p.getLsbD 5 ^^ p.getLsbD 4) ∧
    q.getLsbD 4 = (p.getLsbD 4 ^^ p.getLsbD 3) ∧
    q.getLsbD 3 = !(p.getLsbD 3) ∧
    q.getLsbD 2 = ((p.getLsbD 3 || p.getLsbD 2) ^^ p.getLsbD 1) ∧
    q.getLsbD 1 = p.getLsbD 2 ∧
    q.getLsbD 0 = !(p.getLsbD 0) := by
  have slot (i : Fin 8) (rule : RuleId) (holds : referenceTable[7 - i.val] = rule.byte) :=
    automatonStep_getLsbD_of_slot m p i holds
  refine ⟨?bit7, ?bit6, ?bit5, ?bit4, ?bit3, ?bit2, ?bit1, ?bit0⟩
  case bit7 => simpa [RuleId.apply_r102] using slot 7 .r102 rfl
  case bit6 => simpa [RuleId.apply_r102] using slot 6 .r102 rfl
  case bit5 => simpa [RuleId.apply_r102] using slot 5 .r102 rfl
  case bit4 => simpa [RuleId.apply_r102] using slot 4 .r102 rfl
  case bit3 => simpa [RuleId.apply] using slot 3 .r51 rfl
  case bit2 => simpa [RuleId.apply_r86] using slot 2 .r86 rfl
  case bit1 => simpa [RuleId.apply] using slot 1 .r240 rfl
  case bit0 => simpa [RuleId.apply_r153] using slot 0 .r153 rfl

/-- The bits that two steps leave, from the equations taken twice. -/
theorem referenceStep_two_bits :
    let q := (automatonStep m referenceTable)^[2] p
    q.getLsbD 7 = (p.getLsbD 7 ^^ p.getLsbD 5) ∧
    q.getLsbD 6 = (p.getLsbD 6 ^^ p.getLsbD 4) ∧
    q.getLsbD 5 = (p.getLsbD 5 ^^ p.getLsbD 3) ∧
    q.getLsbD 4 = !(p.getLsbD 4) ∧
    q.getLsbD 3 = p.getLsbD 3 ∧
    q.getLsbD 2 = !(p.getLsbD 2 ^^ (p.getLsbD 3 && p.getLsbD 1)) ∧
    q.getLsbD 1 = ((p.getLsbD 3 || p.getLsbD 2) ^^ p.getLsbD 1) ∧
    q.getLsbD 0 = p.getLsbD 0 := by
  simp only [Function.iterate_succ_apply, Function.iterate_zero_apply, referenceStep_bits]
  refine ⟨?bit7, ?bit6, ?bit5, ?bit4, ?bit3, ?bit2, trivial, ?bit0⟩
  case bit7 | bit6 | bit5 | bit4 | bit3 | bit0 => simp
  case bit2 => cases p.getLsbD 3 <;> simp [Bool.xor_comm]

/-- What four steps flip: bits 7, 6 and 2 of a byte whose bit 3 is 1, else bits 6 and 1. -/
def fourStepFlips (p : Byte) : Byte := if p.getLsbD 3 then 0xC4 else 0x42

theorem referenceStep_four : (automatonStep m referenceTable)^[4] p = p ^^^ fourStepFlips p := by
  rw [Function.iterate_add_apply _ 2 2]
  refine BitVec.eq_of_getLsbD_eq fun i hi => ?_
  unfold fourStepFlips
  split
  case isTrue bit3 | isFalse bit3 =>
    interval_cases i <;> simp [-BitVec.getLsbD_eq_getElem, -Function.iterate_succ, referenceStep_two_bits, bit3]

theorem fourStepFlips_ne_zero : fourStepFlips p ≠ 0 := by
  unfold fourStepFlips
  split <;> decide

/-- Four steps keep bit 3, so the next four flip the same bits. -/
theorem fourStepFlips_xor : fourStepFlips (p ^^^ fourStepFlips p) = fourStepFlips p := by
  have bit3 : (fourStepFlips p).getLsbD 3 = false := by
    unfold fourStepFlips
    split <;> rfl
  have kept : (p ^^^ fourStepFlips p).getLsbD 3 = p.getLsbD 3 := by rw [BitVec.getLsbD_xor, bit3, Bool.xor_false]
  rw [fourStepFlips, kept, ← fourStepFlips]

theorem referenceStep_four_ne : (automatonStep m referenceTable)^[4] p ≠ p := by
  rw [referenceStep_four, Ne, xor_left_eq_self_iff]
  exact fourStepFlips_ne_zero p

theorem referenceStep_eight : (automatonStep m referenceTable)^[8] p = p := by
  rw [Function.iterate_add_apply _ 4 4, referenceStep_four, referenceStep_four, fourStepFlips_xor, xor_cancel_right]

/-- Eight is a power of two, and four steps give no byte back. -/
theorem referenceStep_minimalPeriod : Function.minimalPeriod (automatonStep m referenceTable) p = 8 :=
  Function.minimalPeriod_eq_prime_pow (p := 2) (k := 2) (referenceStep_four_ne m p) (referenceStep_eight m p)

theorem referenceStep_iterate_eq_self_iff (n : Nat) : (automatonStep m referenceTable)^[n] p = p ↔ 8 ∣ n := by
  rw [← referenceStep_minimalPeriod m p]
  exact Function.isPeriodicPt_iff_minimalPeriod_dvd

end

theorem referenceStep_bijective (m : Rule165Mode) : Function.Bijective (automatonStep m referenceTable) :=
  Function.bijective_iff_has_inverse.mpr ⟨(automatonStep m referenceTable)^[7], referenceStep_eight m, fun p =>
    (Function.iterate_succ_apply' _ 7 p).symm.trans (referenceStep_eight m p)⟩

/-- Settles O16: every orbit's length divides 8 and not 4. -/
theorem referenceTableOrbitsHaveLengthEight : Obligations.ReferenceTableOrbitsHaveLengthEight := by
  rintro m _ rfl
  refine ⟨referenceStep_bits m, referenceStep_bijective m, referenceStep_eight m, fun p n positive short back => ?_⟩
  have multiple : 8 ∣ n := (referenceStep_iterate_eq_self_iff m p n).mp back
  omega

end Sys2Proof.Machine
end

section
/-! SUPPORT. The commands STEP and ITER (42_automaton_step.md R160, R161). -/

namespace Sys2Proof.Machine

open Sys2Proof.Reference

theorem zextByte_eq_ofNat (v : Byte) : zextByte v = BitVec.ofNat 32 v.toNat := (BitVec.ofNat_toNat 32 v).symm

section

variable {s : State}

theorem State.operandX_eq_operandByte (s : State) : s.operandX = operandByte s := s.operandRid_eq

theorem State.tableError_of_supported (h : supportedTable s.rt) : s.tableError = none :=
  if_pos ((tableSupported_iff_supportedTable _).mpr h)

theorem State.tableError_of_unsupported (h : ¬ supportedTable s.rt) : s.tableError = some .badRule :=
  if_neg (mt (tableSupported_iff_supportedTable _).mp h)

/-- The model's rounds of one pixel are the reference rounds (42_automaton_step.md R157). -/
theorem State.evolve_eq_pixelRounds (h : supportedTable s.rt) : s.evolve = pixelRounds s := by
  funext p
  rw [State.evolve, iterPixel_eq_iterate, automatonStep_eq_pixelStep _ h, pixelRounds]

/-- The table and cycle checks of ITER, ENCPIX and DECPIX: the table check comes first (60_exceptions.md R212). -/
theorem State.iterChecks_of_unsupported (h : ¬ supportedTable s.rt) : s.tableError.or s.cyclesError = some .badRule := by
  rw [State.tableError_of_unsupported h, Option.some_or]

theorem State.iterChecks_of_zeroCycles (h : supportedTable s.rt) (zero : s.cycles = 0) :
    s.tableError.or s.cyclesError = some .badCycles := by
  rw [State.tableError_of_supported h, Option.none_or, State.cyclesError, if_pos zero]

theorem State.iterChecks_of_positiveCycles (h : supportedTable s.rt) (positive : s.cycles ≠ 0) :
    s.tableError.or s.cyclesError = none := by
  rw [State.tableError_of_supported h, Option.none_or, State.cyclesError, if_neg positive]

theorem exec_step_completion (busy : s.busy = true) :
    exec .step s = .next (completed { s with
      result := zextByte (automatonStep s.cfg.rule165 s.rt s.operandX) }) :=
  State.runCommand_setResult busy ..

theorem exec_iter_completion (busy : s.busy = true) :
    exec .iter s = .next (completed { s with result := zextByte (s.evolve s.operandX) }) :=
  State.runCommand_setResult busy ..

end

/-- Settles O21: the completion by the reference step, and the accept by the check of the table. -/
theorem stepCommandCompletes : Obligations.StepCommandCompletes := by
  refine fun s => ⟨fun busy supported => ?completion, fun idle supported => ?inFlight, fun idle unsupported => ?inError⟩
  case completion =>
    rw [exec_step_completion busy, automatonStep_eq_pixelStep _ supported, State.operandX_eq_operandByte, zextByte_eq_ofNat]
  case inFlight => exact exec_accept_inFlight idle (by decide) (State.tableError_of_supported supported)
  case inError => exact exec_accept_inError (i := .step) idle (State.tableError_of_unsupported unsupported)

/-- Settles O22: the completion by the reference rounds, and the accept by the checks of the table and of CYCLES. -/
theorem iterCommandCompletes : Obligations.IterCommandCompletes := by
  refine fun s => ⟨fun busy supported => ?completion, fun idle supported positive => ?inFlight,
    fun idle unsupported => ?badRule, fun idle supported zero => ?badCycles⟩
  case completion =>
    rw [exec_iter_completion busy, State.evolve_eq_pixelRounds supported, State.operandX_eq_operandByte, zextByte_eq_ofNat]
  case inFlight => exact exec_accept_inFlight idle (by decide) (State.iterChecks_of_positiveCycles supported positive)
  case badRule => exact exec_accept_inError (i := .iter) idle (State.iterChecks_of_unsupported unsupported)
  case badCycles => exact exec_accept_inError (i := .iter) idle (State.iterChecks_of_zeroCycles supported zero)

end Sys2Proof.Machine
end

section
/-! SUPPORT. ENCRYPT followed by DECRYPT on a grid (43_cipher_engine.md R193), and its round trip with the reference table. -/

namespace Sys2Proof.Machine

open Sys2Proof.Reference

/-- 187 and 115 are inverse modulo 256 (43_cipher_engine.md R181). -/
theorem unmaskByte_maskByte (x : Byte) : unmaskByte (maskByte x) = x := by
  apply BitVec.eq_of_toNat_eq
  rw [unmaskByte, maskByte, BitVec.toNat_ofNat, BitVec.toNat_ofNat]
  omega

section

variable {s : State}

theorem exec_encrypt_completion (busy : s.busy = true) : exec .encrypt s = .next (s.mapGrid s.encryptByte).finish :=
  State.runCommand_busy busy ..

theorem exec_decrypt_completion (busy : s.busy = true) : exec .decrypt s = .next (s.mapGrid s.decryptByte).finish :=
  State.runCommand_busy busy ..

/-- The masks cancel, so c rounds of the encryption are followed by c rounds of the decryption. -/
theorem State.decryptByte_encryptByte (s : State) (x : Byte) :
    s.decryptByte (s.encryptByte x) = (automatonStep s.cfg.rule165 s.rt)^[2 * s.cycles.toNat] x := by
  rw [State.decryptByte, State.encryptByte, unmaskByte_maskByte, State.evolve, State.evolve, iterPixel_eq_iterate,
    ← Function.iterate_add_apply, two_mul]

/-- Two maps of the cells below n, one after the other, map each of them by the composition. -/
theorem Memory.read_mapBelow_mapBelow (m : Memory) (n : Nat) (f g : Byte → Byte) (a : Nat) :
    ((m.mapBelow n f).mapBelow n g).read a = if a < n then (m.read a).map (g ∘ f) else m.read a := by
  rw [Memory.read_mapBelow, Memory.read_mapBelow]
  split
  case isTrue => rw [Option.map_map]
  case isFalse => rfl

/-- ENCRYPT then DECRYPT give the grid `g` back exactly when the composed pixel function fixes every value that `g` holds below N. -/
theorem encrypt_decrypt_restores_iff (busy : s.busy = true) (g : Memory) :
    (∃ t u, exec .encrypt { s with grid := g } = .next t ∧ exec .decrypt { t with busy := true } = .next u ∧
        ∀ a, u.grid.read a = g.read a) ↔
      ∀ a < gridSize s, (g.read a).map (s.decryptByte ∘ s.encryptByte) = g.read a := by
  have encrypts : exec .encrypt { s with grid := g } = .next (completed (s.setGrid (g.mapBelow (gridSize s) s.encryptByte))) :=
    exec_encrypt_completion busy
  have decrypts (h : Memory) : exec .decrypt { completed (s.setGrid h) with busy := true } =
      .next (completed (s.setGrid (h.mapBelow (gridSize s) s.decryptByte))) :=
    exec_decrypt_completion rfl
  have cells := Memory.read_mapBelow_mapBelow g (gridSize s) s.encryptByte s.decryptByte
  constructor
  · rintro ⟨t, u, ht, hu, restored⟩ a inside
    obtain rfl := Host.Outcome.next.inj (encrypts.symm.trans ht)
    obtain rfl := Host.Outcome.next.inj ((decrypts _).symm.trans hu)
    have same := (cells a).symm.trans (restored a)
    rwa [if_pos inside] at same
  · intro restores
    refine ⟨_, _, encrypts, decrypts _, fun a => (cells a).trans ?_⟩
    split
    case isTrue inside => exact restores a inside
    case isFalse => rfl

end

/-- Settles O58: the pixel function is step^(2c), and an orbit of length 8 returns there exactly when 8 divides 2c. -/
theorem referenceTableRoundTripsExactlyAtMultiplesOfFour :
    Obligations.ReferenceTableRoundTripsExactlyAtMultiplesOfFour := by
  intro s busy table nonempty
  have rounds (x : Byte) : s.decryptByte (s.encryptByte x) = x ↔ s.cycles.toNat % 4 = 0 := by
    rw [State.decryptByte_encryptByte, table, referenceStep_iterate_eq_self_iff]
    omega
  simp only [encrypt_decrypt_restores_iff busy]
  constructor
  · intro restores
    have cell := restores [(0, 0)] 0 nonempty
    rw [Memory.read_cons, if_pos rfl] at cell
    exact (rounds 0).mp (Option.some.inj cell)
  · intro multiple g a _
    have restored : s.decryptByte ∘ s.encryptByte = id := funext fun x => (rounds x).mpr multiple
    rw [restored, Option.map_id_apply]

end Sys2Proof.Machine
end

section
/-! SUPPORT. The dispatch of a step to `exec` (43_cipher_engine.md R171, R172; 20_memory.md R66), NOP, and the idle engine. -/

namespace Sys2Proof.Machine

open Sys2Proof.Reference

section

variable {s : State} {i : Instr} {rest : List Event}

/-! ### What each turn does with a decoded word -/

theorem State.commandWrite_of_legal {w : Word} (legal : decode w = .ok i) : s.commandWrite w = .run i s := by
  simp [State.commandWrite, legal]

theorem State.engineTurn_of_inFlight (busy : s.busy = true) (word : decode s.cmd = .ok i) : s.engineTurn = .run i s := by
  simp [State.engineTurn, busy, word]

theorem State.engineTurn_of_idle (idle : s.busy = false) : s.engineTurn = .done (.next s) := by
  simp [State.engineTurn, idle]

/-! ### Steps that run a command -/

/-- With no event left the turn is the engine's (entry 18). -/
theorem step_of_noEvent (empty : s.schedule = []) : step s = (s.past []).engineTurn.answer := by
  have unchanged : s.past [] = s.respond .none := by simp [State.past, State.withSchedule, State.respond, ← empty]
  rw [unchanged]
  simp [step_eq_answer, State.nextAction, empty]

theorem step_of_legalCmdWrite {w : Word} (idle : s.busy = false) (head : s.schedule = .regWrite 0 w :: rest)
    (legal : decode w = .ok i) : step s = exec i (taken s rest) :=
  calc step s
    _ = ((s.past rest).regWrite Reg.cmd.index w).answer := step_of_regWrite head
    _ = ((s.past rest).commandWrite w).answer := by simp [State.regWrite_index, idle]
    _ = exec i (s.past rest) := congrArg Action.answer (State.commandWrite_of_legal legal)

/-- The engine's turn runs the command that CMD holds, whatever of the schedule is left. -/
theorem engineTurn_answer_of_inFlight (busy : s.busy = true) (word : decode s.cmd = .ok i) (rest : List Event) :
    (s.past rest).engineTurn.answer = exec i (taken s rest) :=
  congrArg Action.answer (State.engineTurn_of_inFlight (s := s.past rest) busy word)

theorem engineTurn_answer_of_idle (idle : s.busy = false) (rest : List Event) :
    (s.past rest).engineTurn.answer = .next (taken s rest) :=
  congrArg Action.answer (State.engineTurn_of_idle (s := s.past rest) idle)

/-- A command's own word, placed through the host's tool, is the CMD write of that word (entry 13). -/
theorem State.withFetchWord_encode (s : State) (i : Instr) :
    s.withFetchWord 32 (encode i).toNat = s.withCommand (encode i) := by
  rw [State.withFetchWord, Nat.mod_eq_of_lt (encode i).isLt, BitVec.ofNat_toNat, BitVec.setWidth_eq]

end

/-- Settles O4: a CMD write, or an engine's turn, and `withFetchWord` as the CMD write it places. -/
theorem stepRunsDecodedCommand : Obligations.StepRunsDecodedCommand := by
  refine fun s i rest => ⟨fun w => step_of_legalCmdWrite, fun busy word => ?engine, ?placed⟩
  case engine =>
    have turn (later : List Event) := engineTurn_answer_of_inFlight busy word later
    exact ⟨fun head => (step_of_engine head).trans (turn rest),
      fun empty => (step_of_noEvent empty).trans (turn []),
      fun a head => (step_of_heldTransaction busy (.inl ⟨a, rfl⟩) head).trans (turn _),
      fun a v head => (step_of_heldTransaction busy (.inr ⟨a, v, rfl⟩) head).trans (turn _)⟩
  case placed =>
    rw [State.withFetchWord_encode]
    exact step_of_legalCmdWrite (s := s.withCommand (encode i)) rfl rfl (decode_encode i)

/-- Settles O59: both steps are the engine's turn, which does nothing while BUSY = 0. -/
theorem idleEngineTurnChangesNothing : Obligations.IdleEngineTurnChangesNothing := fun _ idle =>
  ⟨fun rest head => (step_of_engine head).trans (engineTurn_answer_of_idle idle rest),
    fun empty => (step_of_noEvent empty).trans (engineTurn_answer_of_idle idle [])⟩

/-- Settles O30: legal or not, the word's accept is the reference accept. -/
theorem acceptFollowsTheCheckFunction : Obligations.AcceptFollowsTheCheckFunction := fun _ _ _ => step_of_cmdWrite

/-- NOP has no check to fail, and its word is 0 (43_cipher_engine.md R170). -/
theorem accept_nop (s : State) :
    Reference.accept s (encode .nop) = { s with cmd := 0, done := true, err := false, ecode := 0 } := by
  have passes : check s (encode .nop) = 0 := check_encode s .nop
  rw [Reference.accept, if_neg (not_not.mpr passes), if_pos (by decide)]
  rfl

/-- Settles O19: the accept, the ignored busy write, and a word with a reserved bit set. -/
theorem nopCompletesAtAccept : Obligations.NopCompletesAtAccept := by
  refine ⟨fun s idle => ?accept, fun s rest busy head => step_of_protectedWrite busy head (by decide), ?reserved⟩
  case accept => rw [exec_accept_eq idle, accept_nop]
  case reserved => exact mt decode_eq_ok_iff.mp (by decide)

end Sys2Proof.Machine
end

section
/-! SUPPORT. The completion of every command as one function of the command (43_cipher_engine.md R172), its frame, and the inputs
that the values it writes depend on. -/

namespace Sys2Proof.Machine

open Sys2Proof.Reference

/-! ### The completion's effect -/

/-- What a completion writes besides BUSY and DONE. -/
inductive Effect
  | nothing
  /-- RESULT takes a value (10_state.md R39) -/
  | result (value : State → Word)
  /-- each cell below N takes the image of its own old value (43_cipher_engine.md R186) -/
  | pixels (image : State → Byte → Byte)

/-- The effect of each command, as 43_cipher_engine.md R172 lists them. -/
def effectOf : Instr → Effect
  | .nop => .nothing
  | .eval => .result fun s => zextBit (evaluate s.cfg.rule165 s.operandRid s.operandA s.operandB s.operandC)
  | .step => .result fun s => zextByte (automatonStep s.cfg.rule165 s.rt s.operandX)
  | .iter => .result fun s => zextByte (s.evolve s.operandX)
  | .mask => .result fun s => zextByte (maskByte s.operandX)
  | .unmask => .result fun s => zextByte (unmaskByte s.operandX)
  | .encpix => .result fun s => zextByte (s.encryptByte s.operandX)
  | .decpix => .result fun s => zextByte (s.decryptByte s.operandX)
  | .run => .pixels State.evolve
  | .encrypt => .pixels State.encryptByte
  | .decrypt => .pixels State.decryptByte

/-- The state with the effect written. -/
def Effect.write (s : State) : Effect → State
  | .nothing => s
  | .result value => { s with result := value s }
  | .pixels image => { s with grid := s.grid.mapBelow (gridSize s) (image s) }

/-- Every completion writes its command's effect and nothing else but BUSY and DONE. -/
theorem exec_completion {s : State} (busy : s.busy = true) (i : Instr) :
    exec i s = .next (completed ((effectOf i).write s)) := by
  cases i with
  | nop => simp [exec, execNop, busy, effectOf, Effect.write, State.finish, completed]
  | eval | step | iter | mask | unmask | encpix | decpix | run | encrypt | decrypt => exact State.runCommand_busy busy ..

section

variable {s u t : State} {i : Instr} {value : State → Word} {image : State → Byte → Byte}

theorem exec_completion_of_result (busy : s.busy = true) (scalar : effectOf i = .result value) :
    exec i s = .next (completed { s with result := value s }) := by
  rw [exec_completion busy, scalar]
  rfl

theorem exec_completion_of_pixels (busy : s.busy = true) (onGrid : effectOf i = .pixels image) :
    exec i s = .next (completed { s with grid := s.grid.mapBelow (gridSize s) (image s) }) := by
  rw [exec_completion busy, onGrid]
  rfl

theorem eq_of_exec_completion (busy : s.busy = true) (h : exec i s = .next t) : t = completed ((effectOf i).write s) :=
  Host.Outcome.next.inj (h.symm.trans (exec_completion busy i))

theorem mem_scalarCommands_iff :
    i ∈ [Instr.eval, .step, .iter, .mask, .unmask, .encpix, .decpix] ↔ ∃ value, effectOf i = .result value := by
  cases i <;> simp [effectOf]

theorem mem_gridCommands_iff : i ∈ [Instr.run, .encrypt, .decrypt] ↔ ∃ image, effectOf i = .pixels image := by
  cases i <;> simp [effectOf]

/-- Only an effect on RESULT changes RESULT. -/
theorem Effect.write_result_of_not_result {e : Effect} (h : ¬ ∃ value, e = .result value) : (e.write s).result = s.result := by
  cases e with
  | nothing | pixels => rfl
  | result value => exact absurd ⟨value, rfl⟩ h

/-- Only an effect on the pixels changes the grid. -/
theorem Effect.write_grid_of_not_pixels {e : Effect} (h : ¬ ∃ image, e = .pixels image) : (e.write s).grid = s.grid := by
  cases e with
  | nothing | result => rfl
  | pixels image => exact absurd ⟨image, rfl⟩ h

/-- A cell below N after a command on the grid. -/
theorem Effect.write_pixels_read {a : Nat} (inside : a < gridSize s) :
    ((Effect.pixels image).write s).grid.read a = (s.grid.read a).map (image s) :=
  (Memory.read_mapBelow ..).trans (if_pos inside)

/-! ### What the written values depend on (43_cipher_engine.md R174) -/

/-- The build mode, the table and the cycle count: all that the image of one pixel depends on. -/
structure SameRules (s u : State) : Prop where
  rule165 : s.cfg.rule165 = u.cfg.rule165
  rt : s.rt = u.rt
  cycles : s.cycles = u.cycles

theorem SameRules.evolve_eq (h : SameRules s u) : s.evolve = u.evolve := by
  funext p
  rw [State.evolve, h.rule165, h.rt, h.cycles, ← State.evolve]

theorem SameRules.encryptByte_eq (h : SameRules s u) : s.encryptByte = u.encryptByte := by
  funext p
  rw [State.encryptByte, h.evolve_eq, ← State.encryptByte]

theorem SameRules.decryptByte_eq (h : SameRules s u) : s.decryptByte = u.decryptByte := by
  funext p
  rw [State.decryptByte, h.evolve_eq, ← State.decryptByte]

theorem SameRules.image_eq (h : SameRules s u) (onGrid : effectOf i = .pixels image) : image s = image u := by
  cases i <;> cases onGrid
  case run => exact h.evolve_eq
  case encrypt => exact h.encryptByte_eq
  case decrypt => exact h.decryptByte_eq

/-- RESULT's value depends on OPERAND besides. -/
theorem SameRules.value_eq (h : SameRules s u) (operand : s.operand = u.operand) (scalar : effectOf i = .result value) :
    value s = value u := by
  have pixel : s.operandX = u.operandX := congrArg (BitVec.extractLsb' 0 8) operand
  cases i <;> cases scalar
  case eval =>
    simp only [State.operandRid, State.operandA, State.operandB, State.operandC, operand, h.rule165]
  case step => simp only [h.rule165, h.rt, pixel]
  case iter => simp only [h.evolve_eq, pixel]
  case mask | unmask => simp only [pixel]
  case encpix => simp only [h.encryptByte_eq, pixel]
  case decpix => simp only [h.decryptByte_eq, pixel]

/-- Equal cells below N have equal images: each cell's new value comes from that cell and the rules alone. -/
theorem SameRules.write_read_eq (h : SameRules s u) (onGrid : effectOf i = .pixels image) {a b : Nat}
    (ha : a < gridSize s) (hb : b < gridSize u) (same : s.grid.read a = u.grid.read b) :
    ((effectOf i).write s).grid.read a = ((effectOf i).write u).grid.read b := by
  rw [onGrid, Effect.write_pixels_read ha, Effect.write_pixels_read hb, same, h.image_eq onGrid]

end

/-- Settles O55: a grid command writes the image of each cell, which the rules fix. -/
theorem crossPixelIndependence : Obligations.CrossPixelIndependence := by
  intro i s u s' u' a b command busyS busyU mode table cycles ha hb same hs hu
  obtain ⟨image, onGrid⟩ := mem_gridCommands_iff.mp command
  obtain rfl := eq_of_exec_completion busyS hs
  obtain rfl := eq_of_exec_completion busyU hu
  exact SameRules.write_read_eq ⟨mode, table, cycles⟩ onGrid ha hb same

/-- Settles O56: by the effect of the command, which writes RESULT, or the cells below N, or neither. -/
theorem writtenValuesDependOnlyOnInputs : Obligations.WrittenValuesDependOnlyOnInputs := by
  intro i s u s' u' busyS busyU mode operand table cycles height width hs hu
  have rules : SameRules s u := ⟨mode, table, cycles⟩
  obtain rfl := eq_of_exec_completion busyS hs
  obtain rfl := eq_of_exec_completion busyU hu
  refine ⟨fun scalar => ?result, fun notScalar => ?resultKept, fun notGrid a => ?gridKept, fun agree a inside => ?cells⟩
  case result =>
    obtain ⟨value, scalar⟩ := mem_scalarCommands_iff.mp scalar
    rw [scalar]
    exact rules.value_eq operand scalar
  case resultKept => exact Effect.write_result_of_not_result (mt mem_scalarCommands_iff.mpr notScalar)
  case gridKept =>
    exact congrArg (Memory.read · a) (Effect.write_grid_of_not_pixels (mt mem_gridCommands_iff.mpr notGrid))
  case cells =>
    by_cases onGrid : ∃ image, effectOf i = .pixels image
    · obtain ⟨image, onGrid⟩ := onGrid
      have sizes : gridSize s = gridSize u := by rw [gridSize, height, width, ← gridSize]
      exact rules.write_read_eq onGrid inside (sizes ▸ inside) (agree a inside)
    · have kept (v : State) : (completed ((effectOf i).write v)).grid = v.grid := Effect.write_grid_of_not_pixels onGrid
      rw [kept, kept]
      exact agree a inside

/-! ### No command reaches a cell at N or above (43_cipher_engine.md R191) -/

theorem accept_grid (s : State) (w : Word) : (Reference.accept s w).grid = s.grid := by
  unfold Reference.accept
  split
  · rfl
  · split <;> rfl

theorem Memory.read_mapBelow_outside (m : Memory) {n a : Nat} (f : Byte → Byte) (outside : n ≤ a) :
    (m.mapBelow n f).read a = m.read a := by
  rw [Memory.read_mapBelow, if_neg outside.not_gt]

/-- Settles O53: an accept writes no cell, and a completion maps cells below N at most. -/
theorem commandsKeepDimensionsAndOutsideCells : Obligations.CommandsKeepDimensionsAndOutsideCells := by
  refine fun i s t h => ⟨(exec_frame h).height, (exec_frame h).width, fun a outside => ?_⟩
  cases phase : s.busy with
  | false =>
    obtain rfl := Host.Outcome.next.inj ((exec_accept_eq phase i).symm.trans h)
    rw [accept_grid]
  | true =>
    rcases exec_completion_grid phase h with kept | ⟨f, mapped⟩
    · rw [kept]
    · rw [mapped, Memory.read_mapBelow_outside s.grid (n := s.pixelCount) f outside]

end Sys2Proof.Machine
end

section
/-! SUPPORT. The modular mask pair (43_cipher_engine.md R175, R176, R181) and the commands MASK, UNMASK, ENCPIX and DECPIX. -/

namespace Sys2Proof.Machine

open Sys2Proof.Reference

/-! ### The mask pair -/

section

variable (x : Byte)

theorem maskByte_toNat : (maskByte x).toNat = x.toNat * 187 % 256 := BitVec.toNat_ofNat ..

theorem unmaskByte_toNat : (unmaskByte x).toNat = x.toNat * 115 % 256 := BitVec.toNat_ofNat ..

/-- The other order of `unmaskByte_maskByte`. -/
theorem maskByte_unmaskByte : maskByte (unmaskByte x) = x := by
  apply BitVec.eq_of_toNat_eq
  rw [maskByte_toNat, unmaskByte_toNat]
  omega

theorem maskByte_eq_times187 : maskByte x = times187 x := by
  apply BitVec.eq_of_toNat_eq
  simp [maskByte_toNat, times187]

theorem unmaskByte_eq_times115 : unmaskByte x = times115 x := by
  apply BitVec.eq_of_toNat_eq
  simp [unmaskByte_toNat, times115]

/-- 187 is odd. -/
theorem times187_parity : (times187 x).toNat % 2 = x.toNat % 2 := by
  rw [← maskByte_eq_times187, maskByte_toNat]
  omega

/-- `x * 186` is a multiple of 256 exactly where `x` is one of 128, since 186 is twice an odd number. -/
theorem times187_eq_self_iff : times187 x = x ↔ x = 0 ∨ x = 128 := by
  have byNumber := maskByte_toNat x
  rw [maskByte_eq_times187] at byNumber
  bv_omega

end

/-- Settles O18. -/
theorem maskAndUnmaskAreInverse : Obligations.MaskAndUnmaskAreInverse := fun x =>
  ⟨maskByte_toNat x, unmaskByte_toNat x, unmaskByte_maskByte x, maskByte_unmaskByte x⟩

/-! ### MASK and UNMASK (43_cipher_engine.md R177, R178) -/

theorem operandX_toNat (s : State) : s.operandX.toNat = s.operand.toNat % 256 := by
  simp [State.operandX]

/-- Settles O23: the completion in numbers, an accept with no check, and the arithmetic of 187. -/
theorem maskCommandCompletes : Obligations.MaskCommandCompletes := by
  refine ⟨fun s => ⟨fun busy => ?completion, fun idle => exec_accept_inFlight idle (by decide) rfl⟩,
    fun x => ⟨times187_parity x, times187_eq_self_iff x⟩⟩
  rw [exec_completion_of_result busy rfl, zextByte_eq_ofNat, maskByte_toNat, operandX_toNat]

/-- Settles O24: the completion in numbers, an accept with no check, and the inverse pair. -/
theorem unmaskCommandCompletes : Obligations.UnmaskCommandCompletes := by
  refine ⟨fun s => ⟨fun busy => ?completion, fun idle => exec_accept_inFlight idle (by decide) rfl⟩, fun x => ?inverse⟩
  case completion => rw [exec_completion_of_result busy rfl, zextByte_eq_ofNat, unmaskByte_toNat, operandX_toNat]
  case inverse => rw [← maskByte_eq_times187, ← unmaskByte_eq_times115, unmaskByte_maskByte]

/-! ### ENCPIX and DECPIX (43_cipher_engine.md R179, R180) -/

section

variable {s : State}

theorem State.encryptByte_eq_reference (h : supportedTable s.rt) : s.encryptByte = fun p => times187 (pixelRounds s p) := by
  funext p
  rw [State.encryptByte, State.evolve_eq_pixelRounds h, maskByte_eq_times187]

theorem State.decryptByte_eq_reference (h : supportedTable s.rt) : s.decryptByte = fun p => pixelRounds s (times115 p) := by
  funext p
  rw [State.decryptByte, State.evolve_eq_pixelRounds h, unmaskByte_eq_times115]

/-- A scalar command that puts the image of OPERAND's pixel in RESULT completes with the reference image. -/
theorem exec_completion_of_pixelResult {i : Instr} {image : State → Byte → Byte} {reference : Byte → Byte}
    (scalar : effectOf i = .result fun s => zextByte (image s s.operandX)) (busy : s.busy = true)
    (agrees : image s = reference) :
    exec i s = .next (completed { s with result := BitVec.ofNat 32 (reference (operandByte s)).toNat }) := by
  rw [exec_completion_of_result busy scalar, zextByte_eq_ofNat, agrees, State.operandX_eq_operandByte]

/-- The three ways that the accept of a command with the checks of the table and of CYCLES can end. -/
theorem exec_accept_of_iterChecks {i : Instr} (notNop : i ≠ .nop) (checks : s.checksOf i = s.tableError.or s.cyclesError) :
    (s.busy = false → supportedTable s.rt → s.cycles ≠ 0 → exec i s = .next (inFlight s (encode i))) ∧
    (s.busy = false → ¬ supportedTable s.rt → exec i s = .next (inError s (encode i) 2)) ∧
    (s.busy = false → supportedTable s.rt → s.cycles = 0 → exec i s = .next (inError s (encode i) 3)) :=
  ⟨fun idle supported positive =>
      exec_accept_inFlight idle notNop (checks.trans (State.iterChecks_of_positiveCycles supported positive)),
    fun idle unsupported => exec_accept_inError idle (checks.trans (State.iterChecks_of_unsupported unsupported)),
    fun idle supported zero => exec_accept_inError idle (checks.trans (State.iterChecks_of_zeroCycles supported zero))⟩

theorem zextByte_toNat (v : Byte) : (zextByte v).toNat = v.toNat := BitVec.toNat_setWidth_of_le (by decide)

/-- ENCRYPT on a 1x1 grid that holds `x` leaves the byte's encryption there (43_cipher_engine.md R192). -/
theorem exec_encrypt_single (busy : s.busy = true) (x : Byte) :
    ∃ u, exec .encrypt { s with height := 1, width := 1, grid := [(0, x)] } = .next u ∧
      u.grid.read 0 = some (s.encryptByte x) :=
  ⟨_, exec_completion_of_pixels busy rfl, rfl⟩

end

/-- Settles O25: the reference encryption of the pixel, the two checks, and the 1x1 grid. -/
theorem encpixCommandCompletes : Obligations.EncpixCommandCompletes := by
  intro s
  obtain ⟨accepted, badRule, badCycles⟩ := exec_accept_of_iterChecks (s := s) (i := .encpix) (by decide) rfl
  refine ⟨fun busy supported => ?completion, accepted, badRule, badCycles, fun busy => ?single⟩
  case completion => exact exec_completion_of_pixelResult rfl busy (State.encryptByte_eq_reference supported)
  case single =>
    obtain ⟨u, encrypts, cell⟩ := exec_encrypt_single busy (operandByte s)
    refine ⟨_, u, exec_completion_of_result busy rfl, encrypts, ?_⟩
    rw [cell, Option.map_some, ← State.operandX_eq_operandByte]
    exact congrArg some (zextByte_toNat (s.encryptByte s.operandX)).symm

/-- Settles O26: the reference decryption of the pixel, and the two checks. -/
theorem decpixCommandCompletes : Obligations.DecpixCommandCompletes := fun s =>
  ⟨fun busy supported => exec_completion_of_pixelResult rfl busy (State.decryptByte_eq_reference supported),
    exec_accept_of_iterChecks (i := .decpix) (by decide) rfl⟩

end Sys2Proof.Machine
end

section
/-! SUPPORT. The grid commands RUN, ENCRYPT and DECRYPT (43_cipher_engine.md R185 to R190), and their round trips (R193, R194). -/

namespace Sys2Proof.Machine

open Sys2Proof.Reference

section

variable {s : State} {i : Instr} {image : State → Byte → Byte}

/-! ### Accept and completion -/

theorem gridCommand_ne_nop (onGrid : effectOf i = .pixels image) : i ≠ .nop := by
  rintro rfl
  exact nomatch onGrid

/-- Every grid command has the checks of ITER, then the size check (60_exceptions.md R212). -/
theorem State.checksOf_gridCommand (s : State) (onGrid : effectOf i = .pixels image) :
    s.checksOf i = (s.tableError.or s.cyclesError).or s.sizeError := by
  cases i <;> cases onGrid <;> rfl

theorem State.sizeError_of_fits (fits : gridSize s ≤ s.cfg.maxPixels) : s.sizeError = none := if_neg fits.not_gt

theorem State.sizeError_of_exceeds (exceeds : s.cfg.maxPixels < gridSize s) : s.sizeError = some .badDim := if_pos exceeds

/-- Each cell below N takes the image of its own old value. -/
theorem mapsGrid_mapBelow (s : State) (f : Byte → Byte) : mapsGrid s f (s.grid.mapBelow (gridSize s) f) :=
  fun a => s.grid.read_mapBelow (gridSize s) f a

/-- A grid command whose pixel image is the reference one: its completion, and its accept by the three checks in their order. -/
theorem gridCommand_completes (onGrid : effectOf i = .pixels image) {reference : State → Byte → Byte}
    (agrees : ∀ {s}, supportedTable s.rt → image s = reference s) (s : State) :
    (s.busy = true → supportedTable s.rt →
      ∃ g, exec i s = .next (completed { s with grid := g }) ∧ mapsGrid s (reference s) g) ∧
    (s.busy = false → supportedTable s.rt → s.cycles ≠ 0 → gridSize s ≤ s.cfg.maxPixels →
      exec i s = .next (inFlight s (encode i))) ∧
    (s.busy = false → ¬ supportedTable s.rt → exec i s = .next (inError s (encode i) 2)) ∧
    (s.busy = false → supportedTable s.rt → s.cycles = 0 → exec i s = .next (inError s (encode i) 3)) ∧
    (s.busy = false → supportedTable s.rt → s.cycles ≠ 0 → s.cfg.maxPixels < gridSize s →
      exec i s = .next (inError s (encode i) 4)) := by
  have checks := s.checksOf_gridCommand onGrid
  refine ⟨fun busy supported => ?completion, fun idle supported positive fits => ?inFlight, fun idle unsupported => ?badRule,
    fun idle supported zero => ?badCycles, fun idle supported positive exceeds => ?badDim⟩
  case completion =>
    exact ⟨_, exec_completion_of_pixels busy onGrid, agrees supported ▸ mapsGrid_mapBelow s (image s)⟩
  case inFlight =>
    rw [State.iterChecks_of_positiveCycles supported positive, State.sizeError_of_fits fits] at checks
    exact exec_accept_inFlight idle (gridCommand_ne_nop onGrid) checks
  case badRule =>
    rw [State.iterChecks_of_unsupported unsupported] at checks
    exact exec_accept_inError idle checks
  case badCycles =>
    rw [State.iterChecks_of_zeroCycles supported zero] at checks
    exact exec_accept_inError idle checks
  case badDim =>
    rw [State.iterChecks_of_positiveCycles supported positive, State.sizeError_of_exceeds exceeds] at checks
    exact exec_accept_inError idle checks

end

/-- Settles O27: a grid command whose image is the reference rounds. -/
theorem runCommandCompletes : Obligations.RunCommandCompletes :=
  gridCommand_completes (i := .run) rfl State.evolve_eq_pixelRounds

/-- Settles O28: a grid command whose image is the reference rounds, then the mask. -/
theorem encryptCommandCompletes : Obligations.EncryptCommandCompletes :=
  gridCommand_completes (i := .encrypt) rfl State.encryptByte_eq_reference

/-- Settles O29: a grid command whose image is the unmask, then the reference rounds. -/
theorem decryptCommandCompletes : Obligations.DecryptCommandCompletes :=
  gridCommand_completes (i := .decrypt) rfl State.decryptByte_eq_reference

/-! ### Whole-grid rounds (43_cipher_engine.md R185, R186) -/

/-- A round of the grid takes each cell on by one step, so `c` of them take it on by `c`. -/
theorem runCycles_apply (m : Rule165Mode) (rt : Vector Byte 8) (n c : Nat) (g : Nat → Option Byte) (a : Nat) :
    runCycles m rt n c g a = if a < n then (g a).map ((pixelStep m rt)^[c]) else g a := by
  induction c generalizing g with
  | zero => simp [runCycles]
  | succ c ih =>
    calc runCycles m rt n (c + 1) g a
      _ = runCycles m rt n c (gridRound m rt n g) a := rfl
      _ = if a < n then (gridRound m rt n g a).map ((pixelStep m rt)^[c]) else gridRound m rt n g a := ih _
      _ = if a < n then (g a).map ((pixelStep m rt)^[c + 1]) else g a := by
        by_cases inside : a < n
        · simp [gridRound, inside, Function.iterate_succ]
        · simp [gridRound, inside]

/-- Settles O54: both the rounds and RUN give each cell its own `c` steps. -/
theorem gridRoundsEqualPixelRounds : Obligations.GridRoundsEqualPixelRounds := by
  refine ⟨runCycles_apply, fun s busy supported => ?_⟩
  obtain ⟨completes, -⟩ := runCommandCompletes s
  obtain ⟨g, hexec, maps⟩ := completes busy supported
  exact ⟨_, hexec, fun a => (maps a).trans (runCycles_apply ..).symm⟩

/-! ### Round trips (43_cipher_engine.md R193, R194) -/

/-- Every grid comes back through two maps of the cells below `n` exactly when the second undoes the first on every byte: a
one-cell grid holds any byte. -/
theorem mapBelow_mapBelow_restores_iff {n : Nat} (nonempty : 0 < n) (f g : Byte → Byte) :
    (∀ (m : Memory) (a : Nat), ((m.mapBelow n f).mapBelow n g).read a = m.read a) ↔ ∀ x, g (f x) = x := by
  simp only [Memory.read_mapBelow_mapBelow]
  constructor
  · intro restores x
    have cell := restores [(0, x)] 0
    rw [if_pos nonempty, Memory.read_cons, if_pos rfl] at cell
    exact Option.some.inj cell
  · intro undoes m a
    have identity : g ∘ f = id := funext undoes
    rw [identity, Option.map_id_apply, ite_self]

/-- A grid command in a state with the rules of `s` writes the image that `s` gives. -/
theorem exec_gridCommand_of_sameRules {s v : State} (busy : v.busy = true) {i : Instr} {image : State → Byte → Byte}
    (onGrid : effectOf i = .pixels image) (rules : SameRules v s) :
    exec i v = .next (completed { v with grid := v.grid.mapBelow (gridSize v) (image s) }) := by
  rw [exec_completion_of_pixels busy onGrid, rules.image_eq onGrid]

/-- Two grid commands, one after the other, give every grid back exactly when the second image undoes the first. -/
theorem gridCommands_restore_iff {s : State} (busy : s.busy = true) (nonempty : 0 < gridSize s) {i j : Instr}
    {first second : State → Byte → Byte} (hi : effectOf i = .pixels first) (hj : effectOf j = .pixels second) :
    (∀ g : Memory, ∃ t u, exec i { s with grid := g } = .next t ∧ exec j { t with busy := true } = .next u ∧
        ∀ a, u.grid.read a = g.read a) ↔
      ∀ x, second s (first s x) = x := by
  have firstRuns (g : Memory) : exec i { s with grid := g } =
      .next (completed { s with grid := g.mapBelow (gridSize s) (first s) }) :=
    exec_gridCommand_of_sameRules (v := { s with grid := g }) busy hi ⟨rfl, rfl, rfl⟩
  have secondRuns (g : Memory) : exec j { completed { s with grid := g } with busy := true } =
      .next (completed { s with grid := g.mapBelow (gridSize s) (second s) }) :=
    exec_gridCommand_of_sameRules rfl hj ⟨rfl, rfl, rfl⟩
  rw [← mapBelow_mapBelow_restores_iff nonempty]
  refine forall_congr' fun g => ⟨?_, fun restores => ⟨_, _, firstRuns g, secondRuns _, restores⟩⟩
  rintro ⟨t, u, ht, hu, restored⟩
  obtain rfl := Host.Outcome.next.inj ((firstRuns g).symm.trans ht)
  obtain rfl := Host.Outcome.next.inj ((secondRuns _).symm.trans hu)
  exact restored

/-- The other order of `State.decryptByte_encryptByte`: the rounds meet in the middle, between the masks. -/
theorem State.encryptByte_decryptByte (s : State) (x : Byte) :
    s.encryptByte (s.decryptByte x) = maskByte ((automatonStep s.cfg.rule165 s.rt)^[2 * s.cycles.toNat] (unmaskByte x)) := by
  rw [State.encryptByte, State.decryptByte, State.evolve, State.evolve, iterPixel_eq_iterate,
    ← Function.iterate_add_apply, two_mul]

/-- The mask is a bijection, so `f` between the masks is the identity exactly when `f` is. -/
theorem mask_conjugate_eq_self_iff (f : Byte → Byte) :
    (∀ x, maskByte (f (unmaskByte x)) = x) ↔ ∀ x, f x = x := by
  refine ⟨fun fixed x => ?_, fun fixed x => by rw [fixed, maskByte_unmaskByte]⟩
  have masked := congrArg unmaskByte (fixed (maskByte x))
  rwa [unmaskByte_maskByte, unmaskByte_maskByte] at masked

/-- Settles O57: in both orders the image of a byte is step^(2c), the second time between the masks. -/
theorem roundTripExactlyWhenStepTwiceCyclesIsIdentity : Obligations.RoundTripExactlyWhenStepTwiceCyclesIsIdentity := by
  intro s busy supported nonempty
  rw [← automatonStep_eq_pixelStep _ supported, gridCommands_restore_iff busy nonempty (i := .encrypt) (j := .decrypt) rfl rfl,
    gridCommands_restore_iff busy nonempty (i := .decrypt) (j := .encrypt) rfl rfl]
  constructor
  · simp only [State.decryptByte_encryptByte]
  · simp only [State.encryptByte_decryptByte]
    exact mask_conjugate_eq_self_iff _

end Sys2Proof.Machine
end

section
/-! SUPPORT. Errors and interrupts (60_exceptions.md R210 to R220): a failed accept, the interrupt output, and the only stop of a
consistent state. -/

namespace Sys2Proof.Machine

open Sys2Proof.Reference

/-! ### The accept of a CMD write (60_exceptions.md R213, R220) -/

section

variable (s : State) (w : Word)

theorem accept_inError (fails : check s w ≠ 0) : Reference.accept s w = inError s w (check s w) := if_pos fails

theorem accept_ie : (Reference.accept s w).ie = s.ie := by
  unfold Reference.accept
  split
  · rfl
  · split <;> rfl

/-- After an accept DONE tells whether the command is over already: in error, or NOP. -/
theorem accept_done : (Reference.accept s w).done = (w == 0 || check s w != 0) := by
  by_cases fails : check s w ≠ 0
  · rw [accept_inError s w fails, bne_iff_ne.mpr fails, Bool.or_true]
    rfl
  · have passes := not_not.mp fails
    by_cases nop : w = 0
    · rw [Reference.accept, if_neg fails, if_pos nop, beq_iff_eq.mpr nop, Bool.true_or]
    · rw [accept_inFlight passes nop, beq_eq_false_iff_ne.mpr nop, passes]
      rfl

end

/-- Settles O31: a failed check makes the reference accept `inError`, which names the four registers that change. -/
theorem failedAcceptIsPrecise : Obligations.FailedAcceptIsPrecise := fun s w rest idle head fails =>
  (step_of_cmdWrite idle head).trans (congrArg _ (accept_inError (s.past rest) w fails))

/-! ### The engine's turn (43_cipher_engine.md R172) -/

section

variable {s t : State}

/-- With a command in flight and the turn the engine's, the step is the engine's turn, whatever of the schedule it leaves. -/
theorem step_of_engineIsNext (busy : s.busy = true) (turn : s.engineIsNext = true) :
    ∃ rest, step s = (s.past rest).engineTurn.answer := by
  have hcase := s.nextAction_case
  rw [step_eq_answer]
  generalize s.nextAction = action at hcase ⊢
  cases hcase with
  | engine rest => exact ⟨rest, rfl⟩
  | gridRead _ _ idle | gridWrite _ _ _ idle => exact absurd (idle.symm.trans busy) (by decide)
  | regRead _ _ head | regWrite _ _ _ head | reset _ head | powerCycle _ head => simp [State.engineIsNext, head] at turn

/-- A completion raises DONE and leaves IE alone. -/
theorem irq_of_completion (busy : s.busy = true) (turn : s.engineIsNext = true) (h : step s = .next t) : t.irq = s.ie := by
  obtain ⟨rest, step_eq⟩ := step_of_engineIsNext busy turn
  obtain ⟨i, -, hexec⟩ := State.engineTurn_completes (s := s.past rest) busy (step_eq.symm.trans h)
  obtain ⟨-, hdone, -⟩ := exec_busy (s := s.past rest) busy hexec
  have hie : t.ie = s.ie := (exec_frame hexec).ie
  rw [State.irq, hdone, hie, Bool.and_true]

end

/-- Settles O44: each write and the reset by the state it leaves, the completion by the frame of the command. -/
theorem interruptFollowsEnableAndDone : Obligations.InterruptFollowsEnableAndDone := by
  refine fun s rest => ⟨rfl, fun w head => ?irqEn, fun w head => ?status, fun w idle head => ?cmd,
    fun t busy turn h => irq_of_completion busy turn h, fun head => ⟨_, step_of_reset head, rfl⟩⟩
  case irqEn => exact ⟨_, step_of_honouredWrite (fun _ => by decide) head, rfl⟩
  case status => exact ⟨_, step_of_statusWrite head, (Bool.and_assoc ..).symm, rfl⟩
  case cmd =>
    refine ⟨_, step_of_cmdWrite idle head, ?_⟩
    rw [State.irq, accept_ie, accept_done]
    rfl

/-! ### What stops the machine (60_exceptions.md R210, R214, R215) -/

section

variable {s : State}

/-- No outcome stands recorded while a command is in flight. -/
theorem Consistent.noError_inFlight (h : Consistent s) (busy : s.busy = true) : s.err = false ∧ s.ecode = 0 := by
  obtain ⟨-, herr, -, -⟩ := h.inFlight busy
  refine ⟨herr, not_not.mp fun hcode => ?_⟩
  exact absurd (herr.symm.trans (h.errIffCode.mpr hcode)) (by decide)

theorem State.regWrite_answers (s : State) (i : BitVec 6) (w : Word) : ∃ t, (s.regWrite i w).answer = .next t := by
  rcases s.regWrite_cases i w with ⟨-, ha⟩ | ⟨r, -, -, -, ha⟩ | ⟨-, idle, ha⟩ | ⟨r, -, -, -, ha⟩ <;> rw [ha]
  · exact ⟨_, rfl⟩
  · exact ⟨_, rfl⟩
  · exact ⟨_, State.commandWrite_answer idle w⟩
  · exact ⟨_, rfl⟩

/-- Idle, the engine's turn does nothing; with a command in flight, it completes it. -/
theorem Consistent.engineTurn_answers_next (h : Consistent s) : ∃ t, s.engineTurn.answer = .next t := by
  cases hb : s.busy with
  | false => exact ⟨s, congrArg Action.answer (State.engineTurn_of_idle hb)⟩
  | true =>
    obtain ⟨t, hanswer, -⟩ := h.engineTurn_answers hb
    exact ⟨t, hanswer⟩

variable {a : Nat} (fits : a < 2 ^ gridAddrWidth s.cfg.maxPixels)

include fits

theorem State.gridRead_answers_or_poison :
    (∃ t, s.gridRead a = .next t) ∨
    (a < s.cfg.maxPixels ∧ s.grid.read a = none ∧ s.gridRead a = .fault (.poisonRead a)) := by
  rcases s.gridRead_cases a with ⟨offPort, -⟩ | ⟨-, ho⟩ | ⟨-, v, -, ho⟩ | poison
  · exact absurd fits offPort.not_gt
  · exact .inl ⟨_, ho⟩
  · exact .inl ⟨_, ho⟩
  · exact .inr poison

theorem State.gridWrite_answers (v : Byte) : ∃ t, s.gridWrite a v = .next t := by
  rcases s.gridWrite_cases a v with ⟨offPort, -⟩ | ⟨-, ho⟩ | ⟨-, ho⟩
  · exact absurd fits offPort.not_gt
  · exact ⟨_, ho⟩
  · exact ⟨_, ho⟩

end

/-- Settles O48: the step is the engine's turn, whose completion keeps ERR and ECODE, and both are 0 in flight. -/
theorem noErrorArisesAfterAccept : Obligations.NoErrorArisesAfterAccept := by
  intro s consistent busy turn
  obtain ⟨rest, step_eq⟩ := step_of_engineIsNext busy turn
  obtain ⟨t, hanswer, -⟩ := (consistent.past rest).engineTurn_answers busy
  obtain ⟨i, -, hexec⟩ := State.engineTurn_completes (s := s.past rest) busy hanswer
  obtain ⟨hidle, hdone, -, herr, hcode⟩ := exec_busy (s := s.past rest) busy hexec
  obtain ⟨noErr, noCode⟩ := consistent.noError_inFlight busy
  exact ⟨t, step_eq.trans hanswer, hidle, hdone, herr.trans noErr, hcode.trans noCode⟩

/-- Settles O49: by the cases of a step, each of which answers a next state but the read of a poison cell. -/
theorem onlyAPoisonReadStops : Obligations.OnlyAPoisonReadStops := by
  intro s consistent carried
  have hcase := s.nextAction_case
  simp only [step_eq_answer]
  generalize s.nextAction = action at hcase ⊢
  cases hcase with
  | engine rest => exact .inl (consistent.past rest).engineTurn_answers_next
  | regWrite i w rest => exact .inl ((s.past rest).regWrite_answers i w)
  | regRead | reset | powerCycle => exact .inl ⟨_, rfl⟩
  | gridWrite a v rest _ head =>
    have fits := of_decide_eq_true (carried _ rest head)
    exact .inl (State.gridWrite_answers (s := s.past rest) fits v)
  | gridRead a rest idle head =>
    have fits := of_decide_eq_true (carried _ rest head)
    rcases State.gridRead_answers_or_poison (s := s.past rest) fits with answers | ⟨inside, poison, fault⟩
    · exact .inl answers
    · exact .inr ⟨a, rest, idle, head, inside, poison, fault⟩

end Sys2Proof.Machine
end

section
/-! SUPPORT. Reset and power-on (70_reset_and_hazards.md R240 to R245): the registers at their reset values, the cells a reset
event poisons, and the commands straight after power-on. -/

namespace Sys2Proof.Machine

open Sys2Proof.Reference

/-! ### The reset event (70_reset_and_hazards.md R241 to R243) -/

/-- The words 8, 9 and 10 are those of the three grid commands (30_encoding.md R91). -/
theorem gridWord_iff {w : Word} :
    w.toNat ∈ [8, 9, 10] ↔ decode w = .ok .run ∨ decode w = .ok .encrypt ∨ decode w = .ok .decrypt := by
  simp [decode_eq_ok_iff, ← BitVec.toNat_inj, encode]

theorem State.gridCommandInFlight_iff (s : State) :
    s.gridCommandInFlight = true ↔ s.busy = true ∧ s.cmd.toNat ∈ [8, 9, 10] := by
  rw [gridWord_iff, State.gridCommandInFlight, Bool.and_eq_true]
  refine and_congr_right fun _ => ?_
  cases decode s.cmd with
  | error e => simp
  | ok i => cases i <;> simp

theorem State.pixelCount_eq_gridSize (s : State) : s.pixelCount = gridSize s := rfl

/-- The cells after a reset: poison below N where a grid command was in flight, and as they were elsewhere. -/
theorem State.hardReset_grid_read (s : State) (a : Nat) :
    s.hardReset.grid.read a =
      if s.busy = true ∧ s.cmd.toNat ∈ [8, 9, 10] ∧ a < gridSize s then none else s.grid.read a := by
  simp only [State.hardReset_grid, ← and_assoc, ← State.gridCommandInFlight_iff]
  cases s.gridCommandInFlight with
  | false => simp
  | true => simp [Memory.read_poisonBelow, State.pixelCount_eq_gridSize]

/-- FEATURES bit 0 shows the build's meaning of rule 165 (10_state.md R34). -/
theorem State.readReg_features (s : State) : s.readReg .features = if s.cfg.rule165 = .constOne then 1 else 0 := by
  cases h : s.cfg.rule165 <;> simp [State.readReg, h]

/-- Settles O42: the step is `hardReset`, whose registers are those of power-on; the grid command in flight is read off CMD. -/
theorem resetEventClearsRegistersAndKeepsGrid : Obligations.ResetEventClearsRegistersAndKeepsGrid := by
  intro s rest head
  have table (k : Fin 8) : (s.past rest).hardReset.rt[k] = 0 := Vector.getElem_replicate _
  have maxpix := State.readReg_maxpix_toNat (s := (s.past rest).hardReset)
  have features := (s.past rest).hardReset.readReg_features
  have cells := (s.past rest).hardReset_grid_read
  exact ⟨_, step_of_reset head, rfl, rfl, rfl, rfl, rfl, rfl, rfl, rfl, rfl, rfl, rfl, table, rfl, rfl, rfl, rfl, maxpix,
    features, cells⟩

/-! ### The power-on state and the power cycle (70_reset_and_hazards.md R241, R243; 60_exceptions.md R231) -/

/-- Every index but the two that show the build's parameters reads 0 after power-on. -/
theorem readWord_powerOn (c : Config) {i : BitVec 6} (notParameter : i.toNat ∉ [10, 11]) :
    readWord (State.powerOn c) i = 0 := by
  cases hr : Reg.ofIndex i with
  | none => exact readWord_of_reserved _ (Reg.twelve_le_of_ofIndex_none hr)
  | some r =>
    obtain rfl := Reg.eq_index_of_ofIndex hr
    cases r with
    | cmd | status | irqEn | cycles | height | width | rules0 | rules1 | operand | result => rfl
    | maxpix | features => exact absurd (by decide) notParameter

theorem step_of_powerCycle {s : State} {rest : List Event} (head : s.schedule = .powerCycle :: rest) :
    step s = .next (s.past rest).powerCycle := by
  simp [step_eq_answer, State.nextAction, head, Action.answer]

/-- Settles O43: reset is the power-on state of the build, and the power cycle's step rebuilds it with the events left. -/
theorem powerOnStateIsIdleAndPoison : Obligations.PowerOnStateIsIdleAndPoison :=
  ⟨fun _ notParameter => readWord_powerOn Config.build notParameter, rfl, rfl, fun _ => rfl,
    fun _ _ head => step_of_powerCycle head⟩

/-! ### The commands straight after power-on (70_reset_and_hazards.md R245) -/

theorem not_supportedId_zero : ¬ supportedId 0 := by decide

section

variable (c : Config)

/-- The table of power-on holds 0 in every slot, and 0 is no rule (41_rule_evaluator.md R130). -/
theorem powerOn_not_supportedTable : ¬ supportedTable (State.powerOn c).rt := fun supported =>
  not_supportedId_zero (supported 0)

/-- The first check of EVAL and of every command that uses the table fails on power-on. -/
theorem powerOn_checksOf {i : Instr} (checked : i ∉ [.nop, .mask, .unmask]) :
    (State.powerOn c).checksOf i = some .badRule := by
  have unsupported := powerOn_not_supportedTable c
  cases i with
  | nop | mask | unmask => exact absurd (by decide) checked
  | eval => exact State.ridError_of_unsupported not_supportedId_zero
  | step => exact State.tableError_of_unsupported unsupported
  | iter | encpix | decpix => exact State.iterChecks_of_unsupported unsupported
  | run | encrypt | decrypt => rw [State.checksOf, State.iterChecks_of_unsupported unsupported, Option.some_or]

theorem exec_powerOn_inError {i : Instr} (checked : i ∉ [.nop, .mask, .unmask]) :
    exec i (State.powerOn c) = .next (inError (State.powerOn c) (encode i) 2) :=
  exec_accept_inError rfl (powerOn_checksOf c checked)

/-- MASK and UNMASK, which check nothing, go in flight and leave RESULT at 0 where their image of the pixel 0 is 0. -/
theorem exec_powerOn_byteMap {i : Instr} {image : Byte → Byte}
    (scalar : effectOf i = .result fun s => zextByte (image s.operandX)) (notNop : i ≠ .nop)
    (unchecked : (State.powerOn c).checksOf i = none) (image_zero : image 0 = 0) :
    exec i (State.powerOn c) = .next (inFlight (State.powerOn c) (encode i)) ∧
    exec i (inFlight (State.powerOn c) (encode i)) = .next { State.powerOn c with cmd := encode i, done := true } := by
  have operand : (inFlight (State.powerOn c) (encode i)).operandX = 0 := rfl
  refine ⟨exec_accept_inFlight rfl notNop unchecked, ?completion⟩
  rw [exec_completion_of_result rfl scalar, operand, image_zero]
  rfl

end

/-- Settles O32: NOP completes at its accept, MASK and UNMASK map the pixel 0 to 0, and every other command fails its check of
a rule. -/
theorem commandsStraightAfterReset : Obligations.CommandsStraightAfterReset := by
  rintro c _ rfl
  have nop : exec .nop (State.powerOn c) = .next { State.powerOn c with done := true } := by
    rw [exec_accept_eq rfl, accept_nop]
    rfl
  have fails {i : Instr} := exec_powerOn_inError c (i := i)
  exact ⟨nop, exec_powerOn_byteMap c (i := .mask) rfl (by decide) rfl rfl,
    exec_powerOn_byteMap c (i := .unmask) rfl (by decide) rfl rfl, fails (i := .eval) (by decide),
    fails (i := .step) (by decide), fails (i := .iter) (by decide), fails (i := .encpix) (by decide),
    fails (i := .decpix) (by decide), fails (i := .run) (by decide), fails (i := .encrypt) (by decide),
    fails (i := .decrypt) (by decide)⟩

end Sys2Proof.Machine
end

section
/-! SUPPORT. The machine as a whole: the invariant at reset, and the completion of a command in flight (43_cipher_engine.md R173). -/

namespace Sys2Proof.Machine

/-! ### The invariant at reset (70_reset_and_hazards.md R241, R243) -/

/-- The capacity left open is one 00_scope.md R9 allows. -/
theorem Config.build_valid : Config.build.valid :=
  have below := Config.lastPixel.isLt
  ⟨Nat.succ_pos _, Nat.succ_le_of_lt below⟩

theorem State.powerOn_consistent {c : Config} (legal : c.valid) : Consistent (State.powerOn c) :=
  .of_idle legal (Memory.fits_nil _) (State.outcomeCoded_of_noError rfl rfl) rfl

/-- Settles O45: reset is the power-on state of the build, whose parameters are legal. -/
theorem resetStateIsConsistent : Obligations.ResetStateIsConsistent := State.powerOn_consistent Config.build_valid

/-! ### Runs -/

/-- On any machine behind the host's interface, a run whose first step answers `t` goes on from `t`. -/
theorem coreRun_succ (M : Host.Core) {s t : M.State} (h : M.step s = .next t) (k : Nat) : M.run (k + 1) s = M.run k t := by
  rw [Host.Core.run, h]

section

variable {s t : State}

theorem run_succ (h : step s = .next t) (k : Nat) :
    Host.Core.run Sys2Proof.core (k + 1) s = Host.Core.run Sys2Proof.core k t := coreRun_succ Sys2Proof.core h k

theorem run_one (h : step s = .next t) : Host.Core.run Sys2Proof.core 1 s = .next t := run_succ h 0

/-! ### A step with a command in flight -/

/-- No register write ends the command in flight or replaces it (20_memory.md R64). -/
theorem State.regWrite_inFlight (busy : s.busy = true) (i : BitVec 6) (w : Word) :
    ∃ t, (s.regWrite i w).answer = .next t ∧ t.busy = true ∧ t.cmd = s.cmd ∧ t.schedule = s.schedule := by
  rcases s.regWrite_cases i w with ⟨-, ha⟩ | ⟨r, -, -, -, ha⟩ | ⟨-, idle, -⟩ | ⟨r, -, notCmd, -, ha⟩
  · exact ⟨s, congrArg Action.answer ha, busy, rfl, rfl⟩
  · exact ⟨s.setIgn, congrArg Action.answer ha, busy, rfl, rfl⟩
  · exact absurd (idle.symm.trans busy) (by decide)
  · obtain ⟨-, hcmd, hbusy, -, -, hschedule, -⟩ := s.storeReg_frame r w notCmd
    exact ⟨s.storeReg r w, congrArg Action.answer ha, hbusy.trans busy, hcmd, hschedule⟩

/-- Where the turn is not the engine's, the event is the register port's: it is taken, and the command stays in flight. -/
theorem step_keepsInFlight (busy : s.busy = true) (undisturbed : s.undisturbed) (notTurn : s.engineIsNext = false) :
    ∃ e rest t, s.schedule = e :: rest ∧ step s = .next t ∧ t.busy = true ∧ t.cmd = s.cmd ∧ t.schedule = rest := by
  obtain ⟨noReset, noPowerCycle⟩ := undisturbed
  have hcase := s.nextAction_case
  generalize s.nextAction = action at hcase
  cases hcase with
  | engine rest turn => exact absurd (turn.symm.trans notTurn) (by decide)
  | regRead i rest head => exact ⟨_, rest, _, head, step_of_regRead head, busy, rfl, rfl⟩
  | regWrite i w rest head =>
    obtain ⟨t, hanswer, hbusy, hcmd, hrest⟩ := State.regWrite_inFlight (s := s.past rest) busy i w
    exact ⟨_, rest, t, head, (step_of_regWrite head).trans hanswer, hbusy, hcmd, hrest⟩
  | gridRead _ _ idle | gridWrite _ _ _ idle => exact absurd (idle.symm.trans busy) (by decide)
  | reset rest head => exact absurd (head ▸ List.mem_cons_self) noReset
  | powerCycle rest head => exact absurd (head ▸ List.mem_cons_self) noPowerCycle

/-- At the engine's turn the step is the completion, which records no error and leaves CMD as it was. -/
theorem Consistent.step_completes (consistent : Consistent s) (busy : s.busy = true) (turn : s.engineIsNext = true) :
    ∃ t, step s = .next t ∧ t.busy = false ∧ t.done = true ∧ t.err = false ∧ t.ecode = 0 ∧ t.cmd = s.cmd := by
  obtain ⟨t, hstep, idle, done, noErr, noCode⟩ := noErrorArisesAfterAccept s consistent busy turn
  obtain ⟨rest, step_eq⟩ := step_of_engineIsNext busy turn
  obtain ⟨i, -, hexec⟩ := State.engineTurn_completes (s := s.past rest) busy (step_eq.symm.trans hstep)
  obtain ⟨-, -, hcmd, -⟩ := exec_busy (s := s.past rest) busy hexec
  exact ⟨t, hstep, idle, done, noErr, noCode, hcmd⟩

theorem undisturbed_of_cons {e : Event} {rest : List Event} (undisturbed : s.undisturbed)
    (head : s.schedule = e :: rest) (left : t.schedule = rest) : t.undisturbed := by
  obtain ⟨noReset, noPowerCycle⟩ := undisturbed
  rw [head] at noReset noPowerCycle
  exact ⟨left ▸ List.not_mem_of_not_mem_cons noReset, left ▸ List.not_mem_of_not_mem_cons noPowerCycle⟩

end

/-- Settles O47, by strong induction on the number of events to come: the engine's turn completes the command, and any other event
is taken with the command still in flight and one event fewer to come. -/
theorem everyCommandInFlightCompletes : Obligations.EveryCommandInFlightCompletes := by
  intro s consistent busy undisturbed
  induction hevents : s.schedule.length using Nat.strong_induction_on generalizing s with
  | _ n ih =>
    cases turn : s.engineIsNext with
    | true =>
      obtain ⟨t, hstep, outcome⟩ := consistent.step_completes busy turn
      exact ⟨1, t, le_rfl, by omega, run_one hstep, outcome⟩
    | false =>
      obtain ⟨e, rest, t, head, hstep, stillBusy, hcmd, left⟩ := step_keepsInFlight busy undisturbed turn
      have fewer : t.schedule.length + 1 = n := by simpa [head, left] using hevents
      obtain ⟨k, u, -, bound, hrun, idle, done, noErr, noCode, sameCmd⟩ :=
        ih _ (by omega) t (stepKeepsConsistency s t consistent hstep) stillBusy
          (undisturbed_of_cons undisturbed head left) rfl
      exact ⟨k + 1, u, by omega, by omega, (run_succ hstep k).trans hrun, idle, done, noErr, noCode, sameCmd.trans hcmd⟩

end Sys2Proof.Machine
end
